-- ==== Sys2Proof/Word.lean ====
section
/-!
DEFINITION. The two word types of the rust65 CORE (spec/00_scope.md R3, R8): a byte is a `u8`, an address or a program
counter a `u16`. Everything computed from them (byte order, extension, bit fields) stands in `Decode.lean` and
`Machine/`.
-/

namespace Sys2Proof

/-- `u8`: a register, a memory cell, an instruction byte (R3: data width 8 bits). -/
abbrev Byte := BitVec 8

/-- `u16`: an address, the program counter (R3: address width 16 bits). -/
abbrev Word := BitVec 16

end Sys2Proof
end

