-- ==== Sys2Proof/Syntax.lean ====
section
/-!
DEFINITION. The instructions of the rust65 CORE as syntax: ONE constructor for each of the 151 rows of
spec/opcode_table.json (spec/30_encoding.md R56). A constructor is an operation together with its addressing mode (R51)
and carries the operand as R53 assembles it: `b1` the byte after the opcode, `w` the little-endian word of the two bytes
after it. A branch carries its offset byte as it stands in memory. The types leave no room for an operand the encoding
cannot hold (log entry 16).
-/

namespace Sys2Proof

/-- The 151 assigned instructions (R56). The mode is the constructor's suffix, with the tags of R52; an operation with
one mode only has none. -/
inductive Instr
  -- ADC: R110
  /-- ADC Immediate, opcode `69` (R110, R73). -/
  | adcImm (b1 : Byte)
  /-- ADC Zero Page, opcode `65` (R110, R74). -/
  | adcZp (b1 : Byte)
  /-- ADC Zero Page,X, opcode `75` (R110, R75). -/
  | adcZpx (b1 : Byte)
  /-- ADC Absolute, opcode `6D` (R110, R78). -/
  | adcAbs (w : Word)
  /-- ADC Absolute,X, opcode `7D` (R110, R79). -/
  | adcAbsx (w : Word)
  /-- ADC Absolute,Y, opcode `79` (R110, R80). -/
  | adcAbsy (w : Word)
  /-- ADC (Indirect,X), opcode `61` (R110, R82). -/
  | adcIndx (b1 : Byte)
  /-- ADC (Indirect),Y, opcode `71` (R110, R83). -/
  | adcIndy (b1 : Byte)
  -- SBC: R111
  /-- SBC Immediate, opcode `E9` (R111, R73). -/
  | sbcImm (b1 : Byte)
  /-- SBC Zero Page, opcode `E5` (R111, R74). -/
  | sbcZp (b1 : Byte)
  /-- SBC Zero Page,X, opcode `F5` (R111, R75). -/
  | sbcZpx (b1 : Byte)
  /-- SBC Absolute, opcode `ED` (R111, R78). -/
  | sbcAbs (w : Word)
  /-- SBC Absolute,X, opcode `FD` (R111, R79). -/
  | sbcAbsx (w : Word)
  /-- SBC Absolute,Y, opcode `F9` (R111, R80). -/
  | sbcAbsy (w : Word)
  /-- SBC (Indirect,X), opcode `E1` (R111, R82). -/
  | sbcIndx (b1 : Byte)
  /-- SBC (Indirect),Y, opcode `F1` (R111, R83). -/
  | sbcIndy (b1 : Byte)
  -- AND: R120
  /-- AND Immediate, opcode `29` (R120, R73). -/
  | andImm (b1 : Byte)
  /-- AND Zero Page, opcode `25` (R120, R74). -/
  | andZp (b1 : Byte)
  /-- AND Zero Page,X, opcode `35` (R120, R75). -/
  | andZpx (b1 : Byte)
  /-- AND Absolute, opcode `2D` (R120, R78). -/
  | andAbs (w : Word)
  /-- AND Absolute,X, opcode `3D` (R120, R79). -/
  | andAbsx (w : Word)
  /-- AND Absolute,Y, opcode `39` (R120, R80). -/
  | andAbsy (w : Word)
  /-- AND (Indirect,X), opcode `21` (R120, R82). -/
  | andIndx (b1 : Byte)
  /-- AND (Indirect),Y, opcode `31` (R120, R83). -/
  | andIndy (b1 : Byte)
  -- ORA: R121
  /-- ORA Immediate, opcode `09` (R121, R73). -/
  | oraImm (b1 : Byte)
  /-- ORA Zero Page, opcode `05` (R121, R74). -/
  | oraZp (b1 : Byte)
  /-- ORA Zero Page,X, opcode `15` (R121, R75). -/
  | oraZpx (b1 : Byte)
  /-- ORA Absolute, opcode `0D` (R121, R78). -/
  | oraAbs (w : Word)
  /-- ORA Absolute,X, opcode `1D` (R121, R79). -/
  | oraAbsx (w : Word)
  /-- ORA Absolute,Y, opcode `19` (R121, R80). -/
  | oraAbsy (w : Word)
  /-- ORA (Indirect,X), opcode `01` (R121, R82). -/
  | oraIndx (b1 : Byte)
  /-- ORA (Indirect),Y, opcode `11` (R121, R83). -/
  | oraIndy (b1 : Byte)
  -- EOR: R122
  /-- EOR Immediate, opcode `49` (R122, R73). -/
  | eorImm (b1 : Byte)
  /-- EOR Zero Page, opcode `45` (R122, R74). -/
  | eorZp (b1 : Byte)
  /-- EOR Zero Page,X, opcode `55` (R122, R75). -/
  | eorZpx (b1 : Byte)
  /-- EOR Absolute, opcode `4D` (R122, R78). -/
  | eorAbs (w : Word)
  /-- EOR Absolute,X, opcode `5D` (R122, R79). -/
  | eorAbsx (w : Word)
  /-- EOR Absolute,Y, opcode `59` (R122, R80). -/
  | eorAbsy (w : Word)
  /-- EOR (Indirect,X), opcode `41` (R122, R82). -/
  | eorIndx (b1 : Byte)
  /-- EOR (Indirect),Y, opcode `51` (R122, R83). -/
  | eorIndy (b1 : Byte)
  -- BIT: R123
  /-- BIT Zero Page, opcode `24` (R123, R74). -/
  | bitZp (b1 : Byte)
  /-- BIT Absolute, opcode `2C` (R123, R78). -/
  | bitAbs (w : Word)
  -- ASL: R130
  /-- ASL Accumulator, opcode `0A` (R130, R72). -/
  | aslAcc
  /-- ASL Zero Page, opcode `06` (R130, R74). -/
  | aslZp (b1 : Byte)
  /-- ASL Zero Page,X, opcode `16` (R130, R75). -/
  | aslZpx (b1 : Byte)
  /-- ASL Absolute, opcode `0E` (R130, R78). -/
  | aslAbs (w : Word)
  /-- ASL Absolute,X, opcode `1E` (R130, R79). -/
  | aslAbsx (w : Word)
  -- LSR: R131
  /-- LSR Accumulator, opcode `4A` (R131, R72). -/
  | lsrAcc
  /-- LSR Zero Page, opcode `46` (R131, R74). -/
  | lsrZp (b1 : Byte)
  /-- LSR Zero Page,X, opcode `56` (R131, R75). -/
  | lsrZpx (b1 : Byte)
  /-- LSR Absolute, opcode `4E` (R131, R78). -/
  | lsrAbs (w : Word)
  /-- LSR Absolute,X, opcode `5E` (R131, R79). -/
  | lsrAbsx (w : Word)
  -- ROL: R132
  /-- ROL Accumulator, opcode `2A` (R132, R72). -/
  | rolAcc
  /-- ROL Zero Page, opcode `26` (R132, R74). -/
  | rolZp (b1 : Byte)
  /-- ROL Zero Page,X, opcode `36` (R132, R75). -/
  | rolZpx (b1 : Byte)
  /-- ROL Absolute, opcode `2E` (R132, R78). -/
  | rolAbs (w : Word)
  /-- ROL Absolute,X, opcode `3E` (R132, R79). -/
  | rolAbsx (w : Word)
  -- ROR: R133
  /-- ROR Accumulator, opcode `6A` (R133, R72). -/
  | rorAcc
  /-- ROR Zero Page, opcode `66` (R133, R74). -/
  | rorZp (b1 : Byte)
  /-- ROR Zero Page,X, opcode `76` (R133, R75). -/
  | rorZpx (b1 : Byte)
  /-- ROR Absolute, opcode `6E` (R133, R78). -/
  | rorAbs (w : Word)
  /-- ROR Absolute,X, opcode `7E` (R133, R79). -/
  | rorAbsx (w : Word)
  -- CMP: R140
  /-- CMP Immediate, opcode `C9` (R140, R73). -/
  | cmpImm (b1 : Byte)
  /-- CMP Zero Page, opcode `C5` (R140, R74). -/
  | cmpZp (b1 : Byte)
  /-- CMP Zero Page,X, opcode `D5` (R140, R75). -/
  | cmpZpx (b1 : Byte)
  /-- CMP Absolute, opcode `CD` (R140, R78). -/
  | cmpAbs (w : Word)
  /-- CMP Absolute,X, opcode `DD` (R140, R79). -/
  | cmpAbsx (w : Word)
  /-- CMP Absolute,Y, opcode `D9` (R140, R80). -/
  | cmpAbsy (w : Word)
  /-- CMP (Indirect,X), opcode `C1` (R140, R82). -/
  | cmpIndx (b1 : Byte)
  /-- CMP (Indirect),Y, opcode `D1` (R140, R83). -/
  | cmpIndy (b1 : Byte)
  -- CPX: R141
  /-- CPX Immediate, opcode `E0` (R141, R73). -/
  | cpxImm (b1 : Byte)
  /-- CPX Zero Page, opcode `E4` (R141, R74). -/
  | cpxZp (b1 : Byte)
  /-- CPX Absolute, opcode `EC` (R141, R78). -/
  | cpxAbs (w : Word)
  -- CPY: R142
  /-- CPY Immediate, opcode `C0` (R142, R73). -/
  | cpyImm (b1 : Byte)
  /-- CPY Zero Page, opcode `C4` (R142, R74). -/
  | cpyZp (b1 : Byte)
  /-- CPY Absolute, opcode `CC` (R142, R78). -/
  | cpyAbs (w : Word)
  -- INC: R143
  /-- INC Zero Page, opcode `E6` (R143, R74). -/
  | incZp (b1 : Byte)
  /-- INC Zero Page,X, opcode `F6` (R143, R75). -/
  | incZpx (b1 : Byte)
  /-- INC Absolute, opcode `EE` (R143, R78). -/
  | incAbs (w : Word)
  /-- INC Absolute,X, opcode `FE` (R143, R79). -/
  | incAbsx (w : Word)
  -- DEC: R144
  /-- DEC Zero Page, opcode `C6` (R144, R74). -/
  | decZp (b1 : Byte)
  /-- DEC Zero Page,X, opcode `D6` (R144, R75). -/
  | decZpx (b1 : Byte)
  /-- DEC Absolute, opcode `CE` (R144, R78). -/
  | decAbs (w : Word)
  /-- DEC Absolute,X, opcode `DE` (R144, R79). -/
  | decAbsx (w : Word)
  -- INX: R145
  /-- INX Implied, opcode `E8` (R145, R71). -/
  | inx
  -- INY: R146
  /-- INY Implied, opcode `C8` (R146, R71). -/
  | iny
  -- DEX: R147
  /-- DEX Implied, opcode `CA` (R147, R71). -/
  | dex
  -- DEY: R148
  /-- DEY Implied, opcode `88` (R148, R71). -/
  | dey
  -- LDA: R155
  /-- LDA Immediate, opcode `A9` (R155, R73). -/
  | ldaImm (b1 : Byte)
  /-- LDA Zero Page, opcode `A5` (R155, R74). -/
  | ldaZp (b1 : Byte)
  /-- LDA Zero Page,X, opcode `B5` (R155, R75). -/
  | ldaZpx (b1 : Byte)
  /-- LDA Absolute, opcode `AD` (R155, R78). -/
  | ldaAbs (w : Word)
  /-- LDA Absolute,X, opcode `BD` (R155, R79). -/
  | ldaAbsx (w : Word)
  /-- LDA Absolute,Y, opcode `B9` (R155, R80). -/
  | ldaAbsy (w : Word)
  /-- LDA (Indirect,X), opcode `A1` (R155, R82). -/
  | ldaIndx (b1 : Byte)
  /-- LDA (Indirect),Y, opcode `B1` (R155, R83). -/
  | ldaIndy (b1 : Byte)
  -- LDX: R156
  /-- LDX Immediate, opcode `A2` (R156, R73). -/
  | ldxImm (b1 : Byte)
  /-- LDX Zero Page, opcode `A6` (R156, R74). -/
  | ldxZp (b1 : Byte)
  /-- LDX Zero Page,Y, opcode `B6` (R156, R76). -/
  | ldxZpy (b1 : Byte)
  /-- LDX Absolute, opcode `AE` (R156, R78). -/
  | ldxAbs (w : Word)
  /-- LDX Absolute,Y, opcode `BE` (R156, R80). -/
  | ldxAbsy (w : Word)
  -- LDY: R157
  /-- LDY Immediate, opcode `A0` (R157, R73). -/
  | ldyImm (b1 : Byte)
  /-- LDY Zero Page, opcode `A4` (R157, R74). -/
  | ldyZp (b1 : Byte)
  /-- LDY Zero Page,X, opcode `B4` (R157, R75). -/
  | ldyZpx (b1 : Byte)
  /-- LDY Absolute, opcode `AC` (R157, R78). -/
  | ldyAbs (w : Word)
  /-- LDY Absolute,X, opcode `BC` (R157, R79). -/
  | ldyAbsx (w : Word)
  -- STA: R158
  /-- STA Zero Page, opcode `85` (R158, R74). -/
  | staZp (b1 : Byte)
  /-- STA Zero Page,X, opcode `95` (R158, R75). -/
  | staZpx (b1 : Byte)
  /-- STA Absolute, opcode `8D` (R158, R78). -/
  | staAbs (w : Word)
  /-- STA Absolute,X, opcode `9D` (R158, R79). -/
  | staAbsx (w : Word)
  /-- STA Absolute,Y, opcode `99` (R158, R80). -/
  | staAbsy (w : Word)
  /-- STA (Indirect,X), opcode `81` (R158, R82). -/
  | staIndx (b1 : Byte)
  /-- STA (Indirect),Y, opcode `91` (R158, R83). -/
  | staIndy (b1 : Byte)
  -- STX: R159
  /-- STX Zero Page, opcode `86` (R159, R74). -/
  | stxZp (b1 : Byte)
  /-- STX Zero Page,Y, opcode `96` (R159, R76). -/
  | stxZpy (b1 : Byte)
  /-- STX Absolute, opcode `8E` (R159, R78). -/
  | stxAbs (w : Word)
  -- STY: R160
  /-- STY Zero Page, opcode `84` (R160, R74). -/
  | styZp (b1 : Byte)
  /-- STY Zero Page,X, opcode `94` (R160, R75). -/
  | styZpx (b1 : Byte)
  /-- STY Absolute, opcode `8C` (R160, R78). -/
  | styAbs (w : Word)
  -- TAX: R170
  /-- TAX Implied, opcode `AA` (R170, R71). -/
  | tax
  -- TXA: R171
  /-- TXA Implied, opcode `8A` (R171, R71). -/
  | txa
  -- TAY: R172
  /-- TAY Implied, opcode `A8` (R172, R71). -/
  | tay
  -- TYA: R173
  /-- TYA Implied, opcode `98` (R173, R71). -/
  | tya
  -- TSX: R174
  /-- TSX Implied, opcode `BA` (R174, R71). -/
  | tsx
  -- TXS: R175
  /-- TXS Implied, opcode `9A` (R175, R71). -/
  | txs
  -- PHA: R176
  /-- PHA Implied, opcode `48` (R176, R71). -/
  | pha
  -- PLA: R177
  /-- PLA Implied, opcode `68` (R177, R71). -/
  | pla
  -- PHP: R178
  /-- PHP Implied, opcode `08` (R178, R71). -/
  | php
  -- PLP: R179
  /-- PLP Implied, opcode `28` (R179, R71). -/
  | plp
  -- JMP: R190
  /-- JMP Absolute, opcode `4C` (R190, R78). -/
  | jmpAbs (w : Word)
  /-- JMP Indirect, opcode `6C` (R190, R81). -/
  | jmpInd (w : Word)
  -- JSR: R191
  /-- JSR Absolute, opcode `20` (R191, R78). -/
  | jsr (w : Word)
  -- RTS: R192
  /-- RTS Implied, opcode `60` (R192, R71). -/
  | rts
  -- BCC: R194
  /-- BCC Relative, opcode `90` (R194, R77). -/
  | bcc (b1 : Byte)
  -- BCS: R195
  /-- BCS Relative, opcode `B0` (R195, R77). -/
  | bcs (b1 : Byte)
  -- BEQ: R196
  /-- BEQ Relative, opcode `F0` (R196, R77). -/
  | beq (b1 : Byte)
  -- BNE: R197
  /-- BNE Relative, opcode `D0` (R197, R77). -/
  | bne (b1 : Byte)
  -- BMI: R198
  /-- BMI Relative, opcode `30` (R198, R77). -/
  | bmi (b1 : Byte)
  -- BPL: R199
  /-- BPL Relative, opcode `10` (R199, R77). -/
  | bpl (b1 : Byte)
  -- BVC: R200
  /-- BVC Relative, opcode `50` (R200, R77). -/
  | bvc (b1 : Byte)
  -- BVS: R201
  /-- BVS Relative, opcode `70` (R201, R77). -/
  | bvs (b1 : Byte)
  -- BRK: R202
  /-- BRK Implied, opcode `00` (R202, R71). -/
  | brk
  -- RTI: R203
  /-- RTI Implied, opcode `40` (R203, R71). -/
  | rti
  -- CLC: R215
  /-- CLC Implied, opcode `18` (R215, R71). -/
  | clc
  -- SEC: R216
  /-- SEC Implied, opcode `38` (R216, R71). -/
  | sec
  -- CLI: R217
  /-- CLI Implied, opcode `58` (R217, R71). -/
  | cli
  -- SEI: R218
  /-- SEI Implied, opcode `78` (R218, R71). -/
  | sei
  -- CLV: R219
  /-- CLV Implied, opcode `B8` (R219, R71). -/
  | clv
  -- CLD: R220
  /-- CLD Implied, opcode `D8` (R220, R71). -/
  | cld
  -- SED: R221
  /-- SED Implied, opcode `F8` (R221, R71). -/
  | sed
  -- NOP: R222
  /-- NOP Implied, opcode `EA` (R222, R71). -/
  | nop
deriving DecidableEq, Repr

end Sys2Proof
end

