-- ==== Sys2Proof/Decode.lean ====
section
/-!
DEFINITION. The encoding of the rust65 CORE (spec/30_encoding.md): byte order and extension helpers (R8), the decoder
built on the opcode matrix of R56, and after it the encoder built on the per-mnemonic table of the same rule, with the
operation and the addressing mode of every instruction (R51, R52). Decoding is total on any bytes; what is no
instruction is rejected by name.
-/

namespace Sys2Proof

/-! ### Byte order and extension (R8) -/

/-- `lo8(w)`, the low byte of a word (R8). -/
def lo8 (w : Word) : Byte := w.setWidth 8

/-- `hi8(w)`, the high byte of a word (R8). -/
def hi8 (w : Word) : Byte := (w >>> 8).setWidth 8

/-- `hi:lo`, the word `hi * 256 + lo` (R8). -/
def hilo (hi lo : Byte) : Word := hi ++ lo

/-- `zext_16(b)` (R8). -/
def zext16 (b : Byte) : Word := b.setWidth 16

/-- `sext_16(b)`: the same byte with bit 7 copied into bits 15 to 8 (R8). -/
def sext16 (b : Byte) : Word := b.signExtend 16

/-! ### The decoder -/

/-- Why bytes are no instruction. -/
inductive DecodeError
  /-- No byte at all. -/
  | noBytes
  /-- The first byte is one of the 105 unassigned opcodes (R57). -/
  | unassigned (op : Byte)
  /-- The opcode is assigned but fewer bytes follow it than its format takes (R50). The block never meets this: it can
  always read the next byte of memory. -/
  | truncated (op : Byte)
deriving DecidableEq, Repr

/-- What an opcode byte stands for: nothing, or an instruction in one of the three formats of R50, with the operand
still to come. -/
inductive Format
  | unassigned
  /-- F1, one byte. -/
  | f1 (i : Instr)
  /-- F2, opcode and `b1`. -/
  | f2 (mk : Byte → Instr)
  /-- F3, opcode and the word `b2:b1`. -/
  | f3 (mk : Word → Instr)

/-- Row `0x` of the opcode matrix of R56. -/
def opcodeRow0 : List Format :=
  [.f1 .brk, .f2 .oraIndx, .unassigned, .unassigned,
   .unassigned, .f2 .oraZp, .f2 .aslZp, .unassigned,
   .f1 .php, .f2 .oraImm, .f1 .aslAcc, .unassigned,
   .unassigned, .f3 .oraAbs, .f3 .aslAbs, .unassigned]

/-- Row `1x` of the opcode matrix of R56. -/
def opcodeRow1 : List Format :=
  [.f2 .bpl, .f2 .oraIndy, .unassigned, .unassigned,
   .unassigned, .f2 .oraZpx, .f2 .aslZpx, .unassigned,
   .f1 .clc, .f3 .oraAbsy, .unassigned, .unassigned,
   .unassigned, .f3 .oraAbsx, .f3 .aslAbsx, .unassigned]

/-- Row `2x` of the opcode matrix of R56. -/
def opcodeRow2 : List Format :=
  [.f3 .jsr, .f2 .andIndx, .unassigned, .unassigned,
   .f2 .bitZp, .f2 .andZp, .f2 .rolZp, .unassigned,
   .f1 .plp, .f2 .andImm, .f1 .rolAcc, .unassigned,
   .f3 .bitAbs, .f3 .andAbs, .f3 .rolAbs, .unassigned]

/-- Row `3x` of the opcode matrix of R56. -/
def opcodeRow3 : List Format :=
  [.f2 .bmi, .f2 .andIndy, .unassigned, .unassigned,
   .unassigned, .f2 .andZpx, .f2 .rolZpx, .unassigned,
   .f1 .sec, .f3 .andAbsy, .unassigned, .unassigned,
   .unassigned, .f3 .andAbsx, .f3 .rolAbsx, .unassigned]

/-- Row `4x` of the opcode matrix of R56. -/
def opcodeRow4 : List Format :=
  [.f1 .rti, .f2 .eorIndx, .unassigned, .unassigned,
   .unassigned, .f2 .eorZp, .f2 .lsrZp, .unassigned,
   .f1 .pha, .f2 .eorImm, .f1 .lsrAcc, .unassigned,
   .f3 .jmpAbs, .f3 .eorAbs, .f3 .lsrAbs, .unassigned]

/-- Row `5x` of the opcode matrix of R56. -/
def opcodeRow5 : List Format :=
  [.f2 .bvc, .f2 .eorIndy, .unassigned, .unassigned,
   .unassigned, .f2 .eorZpx, .f2 .lsrZpx, .unassigned,
   .f1 .cli, .f3 .eorAbsy, .unassigned, .unassigned,
   .unassigned, .f3 .eorAbsx, .f3 .lsrAbsx, .unassigned]

/-- Row `6x` of the opcode matrix of R56. -/
def opcodeRow6 : List Format :=
  [.f1 .rts, .f2 .adcIndx, .unassigned, .unassigned,
   .unassigned, .f2 .adcZp, .f2 .rorZp, .unassigned,
   .f1 .pla, .f2 .adcImm, .f1 .rorAcc, .unassigned,
   .f3 .jmpInd, .f3 .adcAbs, .f3 .rorAbs, .unassigned]

/-- Row `7x` of the opcode matrix of R56. -/
def opcodeRow7 : List Format :=
  [.f2 .bvs, .f2 .adcIndy, .unassigned, .unassigned,
   .unassigned, .f2 .adcZpx, .f2 .rorZpx, .unassigned,
   .f1 .sei, .f3 .adcAbsy, .unassigned, .unassigned,
   .unassigned, .f3 .adcAbsx, .f3 .rorAbsx, .unassigned]

/-- Row `8x` of the opcode matrix of R56. -/
def opcodeRow8 : List Format :=
  [.unassigned, .f2 .staIndx, .unassigned, .unassigned,
   .f2 .styZp, .f2 .staZp, .f2 .stxZp, .unassigned,
   .f1 .dey, .unassigned, .f1 .txa, .unassigned,
   .f3 .styAbs, .f3 .staAbs, .f3 .stxAbs, .unassigned]

/-- Row `9x` of the opcode matrix of R56. -/
def opcodeRow9 : List Format :=
  [.f2 .bcc, .f2 .staIndy, .unassigned, .unassigned,
   .f2 .styZpx, .f2 .staZpx, .f2 .stxZpy, .unassigned,
   .f1 .tya, .f3 .staAbsy, .f1 .txs, .unassigned,
   .unassigned, .f3 .staAbsx, .unassigned, .unassigned]

/-- Row `Ax` of the opcode matrix of R56. -/
def opcodeRowA : List Format :=
  [.f2 .ldyImm, .f2 .ldaIndx, .f2 .ldxImm, .unassigned,
   .f2 .ldyZp, .f2 .ldaZp, .f2 .ldxZp, .unassigned,
   .f1 .tay, .f2 .ldaImm, .f1 .tax, .unassigned,
   .f3 .ldyAbs, .f3 .ldaAbs, .f3 .ldxAbs, .unassigned]

/-- Row `Bx` of the opcode matrix of R56. -/
def opcodeRowB : List Format :=
  [.f2 .bcs, .f2 .ldaIndy, .unassigned, .unassigned,
   .f2 .ldyZpx, .f2 .ldaZpx, .f2 .ldxZpy, .unassigned,
   .f1 .clv, .f3 .ldaAbsy, .f1 .tsx, .unassigned,
   .f3 .ldyAbsx, .f3 .ldaAbsx, .f3 .ldxAbsy, .unassigned]

/-- Row `Cx` of the opcode matrix of R56. -/
def opcodeRowC : List Format :=
  [.f2 .cpyImm, .f2 .cmpIndx, .unassigned, .unassigned,
   .f2 .cpyZp, .f2 .cmpZp, .f2 .decZp, .unassigned,
   .f1 .iny, .f2 .cmpImm, .f1 .dex, .unassigned,
   .f3 .cpyAbs, .f3 .cmpAbs, .f3 .decAbs, .unassigned]

/-- Row `Dx` of the opcode matrix of R56. -/
def opcodeRowD : List Format :=
  [.f2 .bne, .f2 .cmpIndy, .unassigned, .unassigned,
   .unassigned, .f2 .cmpZpx, .f2 .decZpx, .unassigned,
   .f1 .cld, .f3 .cmpAbsy, .unassigned, .unassigned,
   .unassigned, .f3 .cmpAbsx, .f3 .decAbsx, .unassigned]

/-- Row `Ex` of the opcode matrix of R56. -/
def opcodeRowE : List Format :=
  [.f2 .cpxImm, .f2 .sbcIndx, .unassigned, .unassigned,
   .f2 .cpxZp, .f2 .sbcZp, .f2 .incZp, .unassigned,
   .f1 .inx, .f2 .sbcImm, .f1 .nop, .unassigned,
   .f3 .cpxAbs, .f3 .sbcAbs, .f3 .incAbs, .unassigned]

/-- Row `Fx` of the opcode matrix of R56. -/
def opcodeRowF : List Format :=
  [.f2 .beq, .f2 .sbcIndy, .unassigned, .unassigned,
   .unassigned, .f2 .sbcZpx, .f2 .incZpx, .unassigned,
   .f1 .sed, .f3 .sbcAbsy, .unassigned, .unassigned,
   .unassigned, .f3 .sbcAbsx, .f3 .incAbsx, .unassigned]

/-- The opcode matrix of R56: rows are the high hexadecimal digit of the opcode, columns the low digit. -/
def opcodeMatrix : List (List Format) :=
  [opcodeRow0, opcodeRow1, opcodeRow2, opcodeRow3, opcodeRow4, opcodeRow5, opcodeRow6, opcodeRow7] ++
  [opcodeRow8, opcodeRow9, opcodeRowA, opcodeRowB, opcodeRowC, opcodeRowD, opcodeRowE, opcodeRowF]

/-- Decode is a total function of the opcode byte alone (R51). -/
def decodeOpcode (op : Byte) : Format :=
  (opcodeMatrix.getD (op.toNat / 16) []).getD (op.toNat % 16) .unassigned

/-- The instruction an opcode's format makes of the bytes that follow the opcode, and the bytes left over (R50, R53). -/
def Format.assemble (op : Byte) : Format → List Byte → Except DecodeError (Instr × List Byte)
  | .unassigned, _ => .error (.unassigned op)
  | .f1 i, rest => .ok (i, rest)
  | .f2 mk, b1 :: rest => .ok (mk b1, rest)
  | .f2 _, [] => .error (.truncated op)
  | .f3 mk, b1 :: b2 :: rest => .ok (mk (hilo b2 b1), rest)
  | .f3 _, [] => .error (.truncated op)
  | .f3 _, [_] => .error (.truncated op)

/-- The instruction at the head of `bytes` and the bytes after it, or the reason there is none (R50, R51, R57). -/
def decode : List Byte → Except DecodeError (Instr × List Byte)
  | [] => .error .noBytes
  | op :: rest => (decodeOpcode op).assemble op rest

/-- The 105 unassigned opcode bytes as R57 prints them. The decoder does not read this list: that the two agree is a
statement about both. -/
def unassignedOpcodes : List Byte :=
  [0x02, 0x03, 0x04, 0x07, 0x0B, 0x0C, 0x0F, 0x12, 0x13, 0x14, 0x17, 0x1A, 0x1B, 0x1C, 0x1F] ++
  [0x22, 0x23, 0x27, 0x2B, 0x2F, 0x32, 0x33, 0x34, 0x37, 0x3A, 0x3B, 0x3C, 0x3F] ++
  [0x42, 0x43, 0x44, 0x47, 0x4B, 0x4F, 0x52, 0x53, 0x54, 0x57, 0x5A, 0x5B, 0x5C, 0x5F] ++
  [0x62, 0x63, 0x64, 0x67, 0x6B, 0x6F, 0x72, 0x73, 0x74, 0x77, 0x7A, 0x7B, 0x7C, 0x7F] ++
  [0x80, 0x82, 0x83, 0x87, 0x89, 0x8B, 0x8F, 0x92, 0x93, 0x97, 0x9B, 0x9C, 0x9E, 0x9F] ++
  [0xA3, 0xA7, 0xAB, 0xAF, 0xB2, 0xB3, 0xB7, 0xBB, 0xBF] ++
  [0xC2, 0xC3, 0xC7, 0xCB, 0xCF, 0xD2, 0xD3, 0xD4, 0xD7, 0xDA, 0xDB, 0xDC, 0xDF] ++
  [0xE2, 0xE3, 0xE7, 0xEB, 0xEF, 0xF2, 0xF3, 0xF4, 0xF7, 0xFA, 0xFB, 0xFC, 0xFF]

/-! ### Operation and addressing mode of an instruction (R51, R52) -/

/-- The 56 operations (R56). -/
inductive Mnemonic
  | ADC | SBC | AND | ORA | EOR | BIT | ASL | LSR
  | ROL | ROR | CMP | CPX | CPY | INC | DEC | INX
  | INY | DEX | DEY | LDA | LDX | LDY | STA | STX
  | STY | TAX | TXA | TAY | TYA | TSX | TXS | PHA
  | PLA | PHP | PLP | JMP | JSR | RTS | BCC | BCS
  | BEQ | BNE | BMI | BPL | BVC | BVS | BRK | RTI
  | CLC | SEC | CLI | SEI | CLV | CLD | SED | NOP
deriving DecidableEq, Repr

/-- The eight addressing modes whose operand lies at an effective address that the operation reads or writes (R74 to
R76, R78 to R80, R82, R83), with their operand bytes. -/
inductive MemMode
  | zp (b1 : Byte) | zpx (b1 : Byte) | zpy (b1 : Byte)
  | abs (w : Word) | absx (w : Word) | absy (w : Word)
  | indx (b1 : Byte) | indy (b1 : Byte)
deriving DecidableEq, Repr

/-- The thirteen addressing modes (R52), with their operand bytes. -/
inductive Mode
  | imp | acc
  | imm (b1 : Byte)
  | mem (m : MemMode)
  | rel (b1 : Byte)
  | ind (w : Word)
deriving DecidableEq, Repr

/-- The tags of the thirteen modes (R52), without operand bytes. -/
inductive ModeTag
  | imp | acc | imm | zp | zpx | zpy | rel | abs | absx | absy | ind | indx | indy
deriving DecidableEq, Repr

/-- The tag of a memory mode (R52). -/
def MemMode.tag : MemMode → ModeTag
  | .zp _ => .zp
  | .zpx _ => .zpx
  | .zpy _ => .zpy
  | .abs _ => .abs
  | .absx _ => .absx
  | .absy _ => .absy
  | .indx _ => .indx
  | .indy _ => .indy

/-- The tag of an addressing mode (R52). -/
def Mode.tag : Mode → ModeTag
  | .imp => .imp
  | .acc => .acc
  | .imm _ => .imm
  | .mem m => m.tag
  | .rel _ => .rel
  | .ind _ => .ind

/-- Length of an instruction in one of the eight memory modes (R52). -/
def MemMode.length : MemMode → Nat
  | .zp _ | .zpx _ | .zpy _ | .indx _ | .indy _ => 2
  | .abs _ | .absx _ | .absy _ => 3

/-- The length of an instruction is a function of its addressing mode alone (R52). -/
def Mode.length : Mode → Nat
  | .imp | .acc => 1
  | .imm _ | .rel _ => 2
  | .mem m => m.length
  | .ind _ => 3

/-- The operand bytes of a memory mode, low byte first (R50, R53). -/
def MemMode.operandBytes : MemMode → List Byte
  | .zp b1 | .zpx b1 | .zpy b1 | .indx b1 | .indy b1 => [b1]
  | .abs w | .absx w | .absy w => [lo8 w, hi8 w]

/-- The operand bytes of an addressing mode, low byte first (R50, R53). -/
def Mode.operandBytes : Mode → List Byte
  | .imp | .acc => []
  | .imm b1 | .rel b1 => [b1]
  | .mem m => m.operandBytes
  | .ind w => [lo8 w, hi8 w]

/-- The operation of an instruction (R51, R56). -/
def Instr.mnemonic : Instr → Mnemonic
  | .adcImm _ | .adcZp _ | .adcZpx _ | .adcAbs _ | .adcAbsx _ | .adcAbsy _ | .adcIndx _ | .adcIndy _ => .ADC
  | .sbcImm _ | .sbcZp _ | .sbcZpx _ | .sbcAbs _ | .sbcAbsx _ | .sbcAbsy _ | .sbcIndx _ | .sbcIndy _ => .SBC
  | .andImm _ | .andZp _ | .andZpx _ | .andAbs _ | .andAbsx _ | .andAbsy _ | .andIndx _ | .andIndy _ => .AND
  | .oraImm _ | .oraZp _ | .oraZpx _ | .oraAbs _ | .oraAbsx _ | .oraAbsy _ | .oraIndx _ | .oraIndy _ => .ORA
  | .eorImm _ | .eorZp _ | .eorZpx _ | .eorAbs _ | .eorAbsx _ | .eorAbsy _ | .eorIndx _ | .eorIndy _ => .EOR
  | .bitZp _ | .bitAbs _ => .BIT
  | .aslAcc | .aslZp _ | .aslZpx _ | .aslAbs _ | .aslAbsx _ => .ASL
  | .lsrAcc | .lsrZp _ | .lsrZpx _ | .lsrAbs _ | .lsrAbsx _ => .LSR
  | .rolAcc | .rolZp _ | .rolZpx _ | .rolAbs _ | .rolAbsx _ => .ROL
  | .rorAcc | .rorZp _ | .rorZpx _ | .rorAbs _ | .rorAbsx _ => .ROR
  | .cmpImm _ | .cmpZp _ | .cmpZpx _ | .cmpAbs _ | .cmpAbsx _ | .cmpAbsy _ | .cmpIndx _ | .cmpIndy _ => .CMP
  | .cpxImm _ | .cpxZp _ | .cpxAbs _ => .CPX
  | .cpyImm _ | .cpyZp _ | .cpyAbs _ => .CPY
  | .incZp _ | .incZpx _ | .incAbs _ | .incAbsx _ => .INC
  | .decZp _ | .decZpx _ | .decAbs _ | .decAbsx _ => .DEC
  | .inx => .INX
  | .iny => .INY
  | .dex => .DEX
  | .dey => .DEY
  | .ldaImm _ | .ldaZp _ | .ldaZpx _ | .ldaAbs _ | .ldaAbsx _ | .ldaAbsy _ | .ldaIndx _ | .ldaIndy _ => .LDA
  | .ldxImm _ | .ldxZp _ | .ldxZpy _ | .ldxAbs _ | .ldxAbsy _ => .LDX
  | .ldyImm _ | .ldyZp _ | .ldyZpx _ | .ldyAbs _ | .ldyAbsx _ => .LDY
  | .staZp _ | .staZpx _ | .staAbs _ | .staAbsx _ | .staAbsy _ | .staIndx _ | .staIndy _ => .STA
  | .stxZp _ | .stxZpy _ | .stxAbs _ => .STX
  | .styZp _ | .styZpx _ | .styAbs _ => .STY
  | .tax => .TAX
  | .txa => .TXA
  | .tay => .TAY
  | .tya => .TYA
  | .tsx => .TSX
  | .txs => .TXS
  | .pha => .PHA
  | .pla => .PLA
  | .php => .PHP
  | .plp => .PLP
  | .jmpAbs _ | .jmpInd _ => .JMP
  | .jsr _ => .JSR
  | .rts => .RTS
  | .bcc _ => .BCC
  | .bcs _ => .BCS
  | .beq _ => .BEQ
  | .bne _ => .BNE
  | .bmi _ => .BMI
  | .bpl _ => .BPL
  | .bvc _ => .BVC
  | .bvs _ => .BVS
  | .brk => .BRK
  | .rti => .RTI
  | .clc => .CLC
  | .sec => .SEC
  | .cli => .CLI
  | .sei => .SEI
  | .clv => .CLV
  | .cld => .CLD
  | .sed => .SED
  | .nop => .NOP

/-- The addressing mode of an instruction (R51, R56). -/
def Instr.mode : Instr → Mode
  | .inx | .iny | .dex | .dey | .tax | .txa | .tay
  | .tya | .tsx | .txs | .pha | .pla | .php | .plp
  | .rts | .brk | .rti | .clc | .sec | .cli | .sei
  | .clv | .cld | .sed | .nop =>
    .imp
  | .aslAcc | .lsrAcc | .rolAcc | .rorAcc =>
    .acc
  | .adcImm b1 | .sbcImm b1 | .andImm b1 | .oraImm b1 | .eorImm b1 | .cmpImm b1 | .cpxImm b1
  | .cpyImm b1 | .ldaImm b1 | .ldxImm b1 | .ldyImm b1 =>
    .imm b1
  | .adcZp b1 | .sbcZp b1 | .andZp b1 | .oraZp b1 | .eorZp b1 | .bitZp b1 | .aslZp b1
  | .lsrZp b1 | .rolZp b1 | .rorZp b1 | .cmpZp b1 | .cpxZp b1 | .cpyZp b1 | .incZp b1
  | .decZp b1 | .ldaZp b1 | .ldxZp b1 | .ldyZp b1 | .staZp b1 | .stxZp b1 | .styZp b1 =>
    .mem (.zp b1)
  | .adcZpx b1 | .sbcZpx b1 | .andZpx b1 | .oraZpx b1 | .eorZpx b1 | .aslZpx b1 | .lsrZpx b1
  | .rolZpx b1 | .rorZpx b1 | .cmpZpx b1 | .incZpx b1 | .decZpx b1 | .ldaZpx b1 | .ldyZpx b1
  | .staZpx b1 | .styZpx b1 =>
    .mem (.zpx b1)
  | .ldxZpy b1 | .stxZpy b1 =>
    .mem (.zpy b1)
  | .bcc b1 | .bcs b1 | .beq b1 | .bne b1 | .bmi b1 | .bpl b1 | .bvc b1
  | .bvs b1 =>
    .rel b1
  | .adcAbs w | .sbcAbs w | .andAbs w | .oraAbs w | .eorAbs w | .bitAbs w | .aslAbs w
  | .lsrAbs w | .rolAbs w | .rorAbs w | .cmpAbs w | .cpxAbs w | .cpyAbs w | .incAbs w
  | .decAbs w | .ldaAbs w | .ldxAbs w | .ldyAbs w | .staAbs w | .stxAbs w | .styAbs w
  | .jmpAbs w | .jsr w =>
    .mem (.abs w)
  | .adcAbsx w | .sbcAbsx w | .andAbsx w | .oraAbsx w | .eorAbsx w | .aslAbsx w | .lsrAbsx w
  | .rolAbsx w | .rorAbsx w | .cmpAbsx w | .incAbsx w | .decAbsx w | .ldaAbsx w | .ldyAbsx w
  | .staAbsx w =>
    .mem (.absx w)
  | .adcAbsy w | .sbcAbsy w | .andAbsy w | .oraAbsy w | .eorAbsy w | .cmpAbsy w | .ldaAbsy w
  | .ldxAbsy w | .staAbsy w =>
    .mem (.absy w)
  | .jmpInd w =>
    .ind w
  | .adcIndx b1 | .sbcIndx b1 | .andIndx b1 | .oraIndx b1 | .eorIndx b1 | .cmpIndx b1 | .ldaIndx b1
  | .staIndx b1 =>
    .mem (.indx b1)
  | .adcIndy b1 | .sbcIndy b1 | .andIndy b1 | .oraIndy b1 | .eorIndy b1 | .cmpIndy b1 | .ldaIndy b1
  | .staIndy b1 =>
    .mem (.indy b1)

/-! ### The encoder -/

/-- The opcode byte of an instruction, from the per-mnemonic table of R56. -/
def Instr.opcode : Instr → Byte
  | .adcImm _ => 0x69
  | .adcZp _ => 0x65
  | .adcZpx _ => 0x75
  | .adcAbs _ => 0x6D
  | .adcAbsx _ => 0x7D
  | .adcAbsy _ => 0x79
  | .adcIndx _ => 0x61
  | .adcIndy _ => 0x71
  | .sbcImm _ => 0xE9
  | .sbcZp _ => 0xE5
  | .sbcZpx _ => 0xF5
  | .sbcAbs _ => 0xED
  | .sbcAbsx _ => 0xFD
  | .sbcAbsy _ => 0xF9
  | .sbcIndx _ => 0xE1
  | .sbcIndy _ => 0xF1
  | .andImm _ => 0x29
  | .andZp _ => 0x25
  | .andZpx _ => 0x35
  | .andAbs _ => 0x2D
  | .andAbsx _ => 0x3D
  | .andAbsy _ => 0x39
  | .andIndx _ => 0x21
  | .andIndy _ => 0x31
  | .oraImm _ => 0x09
  | .oraZp _ => 0x05
  | .oraZpx _ => 0x15
  | .oraAbs _ => 0x0D
  | .oraAbsx _ => 0x1D
  | .oraAbsy _ => 0x19
  | .oraIndx _ => 0x01
  | .oraIndy _ => 0x11
  | .eorImm _ => 0x49
  | .eorZp _ => 0x45
  | .eorZpx _ => 0x55
  | .eorAbs _ => 0x4D
  | .eorAbsx _ => 0x5D
  | .eorAbsy _ => 0x59
  | .eorIndx _ => 0x41
  | .eorIndy _ => 0x51
  | .bitZp _ => 0x24
  | .bitAbs _ => 0x2C
  | .aslAcc => 0x0A
  | .aslZp _ => 0x06
  | .aslZpx _ => 0x16
  | .aslAbs _ => 0x0E
  | .aslAbsx _ => 0x1E
  | .lsrAcc => 0x4A
  | .lsrZp _ => 0x46
  | .lsrZpx _ => 0x56
  | .lsrAbs _ => 0x4E
  | .lsrAbsx _ => 0x5E
  | .rolAcc => 0x2A
  | .rolZp _ => 0x26
  | .rolZpx _ => 0x36
  | .rolAbs _ => 0x2E
  | .rolAbsx _ => 0x3E
  | .rorAcc => 0x6A
  | .rorZp _ => 0x66
  | .rorZpx _ => 0x76
  | .rorAbs _ => 0x6E
  | .rorAbsx _ => 0x7E
  | .cmpImm _ => 0xC9
  | .cmpZp _ => 0xC5
  | .cmpZpx _ => 0xD5
  | .cmpAbs _ => 0xCD
  | .cmpAbsx _ => 0xDD
  | .cmpAbsy _ => 0xD9
  | .cmpIndx _ => 0xC1
  | .cmpIndy _ => 0xD1
  | .cpxImm _ => 0xE0
  | .cpxZp _ => 0xE4
  | .cpxAbs _ => 0xEC
  | .cpyImm _ => 0xC0
  | .cpyZp _ => 0xC4
  | .cpyAbs _ => 0xCC
  | .incZp _ => 0xE6
  | .incZpx _ => 0xF6
  | .incAbs _ => 0xEE
  | .incAbsx _ => 0xFE
  | .decZp _ => 0xC6
  | .decZpx _ => 0xD6
  | .decAbs _ => 0xCE
  | .decAbsx _ => 0xDE
  | .inx => 0xE8
  | .iny => 0xC8
  | .dex => 0xCA
  | .dey => 0x88
  | .ldaImm _ => 0xA9
  | .ldaZp _ => 0xA5
  | .ldaZpx _ => 0xB5
  | .ldaAbs _ => 0xAD
  | .ldaAbsx _ => 0xBD
  | .ldaAbsy _ => 0xB9
  | .ldaIndx _ => 0xA1
  | .ldaIndy _ => 0xB1
  | .ldxImm _ => 0xA2
  | .ldxZp _ => 0xA6
  | .ldxZpy _ => 0xB6
  | .ldxAbs _ => 0xAE
  | .ldxAbsy _ => 0xBE
  | .ldyImm _ => 0xA0
  | .ldyZp _ => 0xA4
  | .ldyZpx _ => 0xB4
  | .ldyAbs _ => 0xAC
  | .ldyAbsx _ => 0xBC
  | .staZp _ => 0x85
  | .staZpx _ => 0x95
  | .staAbs _ => 0x8D
  | .staAbsx _ => 0x9D
  | .staAbsy _ => 0x99
  | .staIndx _ => 0x81
  | .staIndy _ => 0x91
  | .stxZp _ => 0x86
  | .stxZpy _ => 0x96
  | .stxAbs _ => 0x8E
  | .styZp _ => 0x84
  | .styZpx _ => 0x94
  | .styAbs _ => 0x8C
  | .tax => 0xAA
  | .txa => 0x8A
  | .tay => 0xA8
  | .tya => 0x98
  | .tsx => 0xBA
  | .txs => 0x9A
  | .pha => 0x48
  | .pla => 0x68
  | .php => 0x08
  | .plp => 0x28
  | .jmpAbs _ => 0x4C
  | .jmpInd _ => 0x6C
  | .jsr _ => 0x20
  | .rts => 0x60
  | .bcc _ => 0x90
  | .bcs _ => 0xB0
  | .beq _ => 0xF0
  | .bne _ => 0xD0
  | .bmi _ => 0x30
  | .bpl _ => 0x10
  | .bvc _ => 0x50
  | .bvs _ => 0x70
  | .brk => 0x00
  | .rti => 0x40
  | .clc => 0x18
  | .sec => 0x38
  | .cli => 0x58
  | .sei => 0x78
  | .clv => 0xB8
  | .cld => 0xD8
  | .sed => 0xF8
  | .nop => 0xEA

/-- The bytes of an instruction, from the lowest address up: the opcode, then the low operand byte, then the high one
(R31, R50). -/
def encode (i : Instr) : List Byte := i.opcode :: i.mode.operandBytes

/-- How many bytes an instruction takes (R52). -/
def Instr.length (i : Instr) : Nat := i.mode.length

/-! ### The host's table words -/

/-- The three bytes of a table word: bit 0 of `w` is bit 0 of the first byte, the second byte is bits 15 to 8, the third
bits 23 to 16, and every bit from `nbits` up is 0 (log entry 13). -/
def tableBytes (nbits w : Nat) : List Byte :=
  let v := w % 2 ^ nbits
  [BitVec.ofNat 8 v, BitVec.ofNat 8 (v / 256), BitVec.ofNat 8 (v / 65536)]

/-- The instruction the decoder reads from a table word. -/
def decodeTableWord (nbits w : Nat) : Option Instr :=
  match decode (tableBytes nbits w) with
  | .ok (i, _) => some i
  | .error _ => none

end Sys2Proof
end

