-- ==== Sys2Proof/Config.lean ====
section
/-!
DEFINITION. The parameters of the rust65 CORE at the values of the table of spec/00_scope.md R3. The spec leaves no value
free (spec/93_implementation_defined.md Part 1), so there is no opaque constant here.
-/

namespace Sys2Proof.Config

/-- `STACK_BASE`, the first address of the stack page (R3, R11). -/
def stackBase : Word := 0x0100

/-- `VEC_NMI` (R3, R35): named by the spec, read by nothing in the block (R234). -/
def vecNmi : Word := 0xFFFA

/-- `VEC_RESET`, the address `boot` takes the program counter from (R3, R261). -/
def vecReset : Word := 0xFFFC

/-- `VEC_BRK`, the address BRK takes the program counter from (R3, R202). -/
def vecBrk : Word := 0xFFFE

/-- `SP_RESET`, the stack pointer after `boot`: a parameter that the spec's decision D11 sets to `0xFD` (R3, R261).
UNVERIFIED, unsafe: log entry 4. -/
def spReset : Byte := 0xFD

/-- Bits 4 and 5 of a status byte: 1 in every pushed copy, 0 in the register (R3, R14). -/
def pushedBits : Byte := 0x30

end Sys2Proof.Config
end

