-- ==== Sys2Proof/Machine/State.lean ====
section
/-!
DEFINITION. The state of the rust65 CORE as one record of plain data (spec/10_state.md R10 to R22), why a step can stop,
and the two states the spec names: after `construct` and after `boot`.
-/

namespace Sys2Proof.Machine

/-- The memory array (R17), as the listed addresses and their bytes. A memory of the block is in canonical form,
`Memory.wf`. -/
abbrev Memory := List Host.Cell

/-- What an address that is not listed reads as: memory is zero-initialized at construction (R17, R19, R30). -/
def Memory.unlisted : Byte := 0x00

/-- Addresses strictly rising from `lo`, inside the 65536-byte array, and no byte equal to what an unlisted address reads
as. -/
def Memory.wfFrom : Nat → Memory → Bool
  | _, [] => true
  | lo, (k, v) :: rest => decide (lo ≤ k) && decide (k < 65536) && decide (v ≠ unlisted) && wfFrom (k + 1) rest

/-- The canonical form: equal memories are equal lists (log entry 10). -/
def Memory.wf (m : Memory) : Bool := wfFrom 0 m

/-- The whole state of the block: there is nothing else (R17, R18, R22). -/
structure State where
  /-- Accumulator (R10). -/
  a : Byte
  /-- Index register X (R10). -/
  x : Byte
  /-- Index register Y (R10). -/
  y : Byte
  /-- Stack pointer: low byte of the address of the next free slot of the stack page (R11). -/
  sp : Byte
  /-- Program counter: between steps, the address of the next opcode byte (R12). -/
  pc : Word
  /-- Status register: C, Z, I, D, B, U, V, N from bit 0 to bit 7 (R13). -/
  p : Byte
  /-- The 65536 bytes of memory (R17). -/
  mem : Memory
deriving DecidableEq, Repr

/-- The three registers `x[r]` of R8 and R10, and the stack pointer, which R8 reads and writes in the same way. -/
inductive Reg
  | A | X | Y | SP
deriving DecidableEq, Repr

/-- Why the machine stops. -/
inductive Fault
  /-- `IllegalOpcode(pc, op)`: raised by a step that fetches one of the 105 unassigned opcode bytes; nothing has changed,
  so a further step raises it again (R57, R231). Safe: the spec itself calls the step a reported decode failure. -/
  | illegalOpcode (pc : Word) (op : Byte)
deriving DecidableEq, Repr

/-- Why the model gives an instruction no meaning. -/
inductive Refusal
  /-- An instruction that has no meaning yet, by its mnemonic in spec/opcode_table.json: raised by `exec`'s arm of it.
  No arm raises it. Safe: no claim about the instruction can be proved from it. -/
  | notModelled (mnemonic : String)
deriving DecidableEq, Repr

/-- The outcome of one instruction or one step. -/
abbrev Result := Host.Outcome State Fault Refusal

/-- After `construct`: every register and every memory byte is zero (R19, R260). -/
def State.construct : State :=
  { a := 0x00, x := 0x00, y := 0x00, sp := 0x00, pc := 0x0000, p := 0x00, mem := [] }

/-- After `construct` and `boot`: `SP` is `SP_RESET` and `PC` the word at the reset vector, which is `0x0000` while nothing
has been written there; everything else is kept (R20, R261, R265). DEDUCED that this is the state right after reset, safe:
log entry 2. -/
def State.reset : State :=
  { a := 0x00, x := 0x00, y := 0x00, sp := Config.spReset, pc := 0x0000, p := 0x00, mem := [] }

end Sys2Proof.Machine
end

