-- ==== Sys2Proof/Machine/Flags.lean ====
section
/-!
DEFINITION. The flag-computation unit and the ALU (spec/41_flags_alu.md): the bits of the status byte, and every function
that computes a result and its flags. Functions on bytes only; the instructions apply them to the state.
-/

namespace Sys2Proof.Machine

/-! ### The status byte (R13) -/

/-- The eight bits of `P`, from bit 0 to bit 7 (R13). -/
inductive Flag
  | C | Z | I | D | B | U | V | N
deriving DecidableEq, Repr

/-- The mask of a flag (R13). -/
def flagMask : Flag → Byte
  | .C => 0x01
  | .Z => 0x02
  | .I => 0x04
  | .D => 0x08
  | .B => 0x10
  | .U => 0x20
  | .V => 0x40
  | .N => 0x80

/-- `P.f` of a status byte (R8, R13). -/
def getFlag (p : Byte) (f : Flag) : Bool := p &&& flagMask f != 0

/-- `P.f <- v` in a status byte: every other bit is preserved (R90). -/
def setFlag (p : Byte) (f : Flag) (v : Bool) : Byte :=
  if v then p ||| flagMask f else p &&& ~~~(flagMask f)

/-- `SetZN(v)`: Z iff the byte is 0, N its bit 7 (R91). -/
def setZN (p v : Byte) : Byte := setFlag (setFlag p .Z (v == 0)) .N v.msb

/-- The copy of `P` that PHP and BRK write to memory: bits 4 and 5 set (R14). -/
def pushedStatus (p : Byte) : Byte := p ||| Config.pushedBits

/-- What PLP and RTI load from a pulled byte, `pulled & 0xCF`: bits 4 and 5 stay 0 (R14). -/
def pulledStatus (v : Byte) : Byte := v &&& ~~~Config.pushedBits

/-! ### Addition and subtraction -/

/-- What `Add8` returns. -/
structure Sum where
  result : Byte
  carry : Bool
  overflow : Bool
deriving DecidableEq, Repr

/-- `Add8(a, b, cin)` (R96): the unbounded sum, reduced modulo 256, with carry (R92) and overflow (R95). -/
def add8 (a b : Byte) (cin : Bool) : Sum :=
  let t := a.toNat + b.toNat + cin.toNat
  let r : Byte := BitVec.ofNat 8 t
  { result := r, carry := decide (t > 255), overflow := ((a ^^^ r) &&& (b ^^^ r)).msb }

/-- `Sub8(a, m, cin)`: addition of the complement (R97). -/
def sub8 (a m : Byte) (cin : Bool) : Sum := add8 a (m ^^^ 0xFF) cin

/-- `Cmp8(r, m)` applied to a status byte: C iff `r >= m` unsigned, Z and N of the difference, nothing else (R94, R98). -/
def cmp8 (p r m : Byte) : Byte :=
  setZN (setFlag p .C (decide (m.toNat ≤ r.toNat))) (r - m)

/-! ### Shifts, increments (R99, R100) -/

/-- A shift's result byte and the bit it shifted out, which becomes the carry (R93, R99). -/
structure Shifted where
  result : Byte
  carry : Bool
deriving DecidableEq, Repr

/-- `Asl8(v)` (R99). The old carry is not used. -/
def asl8 (v : Byte) (_c : Bool) : Shifted := { result := v <<< 1, carry := v.getLsbD 7 }

/-- `Lsr8(v)` (R99). The old carry is not used. -/
def lsr8 (v : Byte) (_c : Bool) : Shifted := { result := v >>> 1, carry := v.getLsbD 0 }

/-- `Rol8(v, c)`: bit 0 becomes the old carry (R99). -/
def rol8 (v : Byte) (c : Bool) : Shifted :=
  { result := (v <<< 1) ||| (if c then 0x01 else 0x00), carry := v.getLsbD 7 }

/-- `Ror8(v, c)`: bit 7 becomes the old carry (R99). -/
def ror8 (v : Byte) (c : Bool) : Shifted :=
  { result := (v >>> 1) ||| (if c then 0x80 else 0x00), carry := v.getLsbD 0 }

/-- `Inc8(v)` (R100). -/
def inc8 (v : Byte) : Byte := v + 1

/-- `Dec8(v)` (R100). -/
def dec8 (v : Byte) : Byte := v - 1

/-! ### The bits of BIT (R123) -/

/-- BIT's three flags applied to a status byte: Z of `A & m`, N and V the bits 7 and 6 of `m` alone (R123). -/
def bitFlags (p a m : Byte) : Byte :=
  setFlag (setFlag (setFlag p .Z (a &&& m == 0)) .N (m.getLsbD 7)) .V (m.getLsbD 6)

end Sys2Proof.Machine
end

