-- ==== Sys2Proof/Machine/Ops.lean ====
section
/-!
DEFINITION. The named operations over memory and registers, the only ways a rule reads or changes state (spec/00_scope.md
R9): memory cells, the state's accessors, words and the stack (spec/20_memory.md), the program-counter advance and the
fetch (spec/30_encoding.md R61, R62), trap entry and return as one operation each (R202, R203, R237, R239), and the host's
transactions `boot` and memory write (R4, R261).
-/

namespace Sys2Proof.Machine

/-! ### Cells of the memory list -/

/-- The byte at an address (R30). -/
def Memory.read : Memory → Nat → Byte
  | [], _ => unlisted
  | (k, v) :: rest, a => if k = a then v else read rest a

/-- The memory without any listing of an address. -/
def Memory.erase : Memory → Nat → Memory
  | [], _ => []
  | (k, v) :: rest, a => if k = a then erase rest a else (k, v) :: erase rest a

/-- The memory with one more listing, in rising order of address. -/
def Memory.insert : Memory → Nat → Byte → Memory
  | [], a, v => [(a, v)]
  | (k, w) :: rest, a, v => if a < k then (a, v) :: (k, w) :: rest else (k, w) :: insert rest a v

/-- Replace the byte at an address (R30). Writing what an unlisted address reads as removes the listing, so the canonical
form is kept. -/
def Memory.write (m : Memory) (a : Nat) (v : Byte) : Memory :=
  if v = unlisted then m.erase a else (m.erase a).insert a v

/-! ### Reading and writing the state -/

/-- `x[r]` (R8, R10, R11). -/
def State.reg (s : State) : Reg → Byte
  | .A => s.a
  | .X => s.x
  | .Y => s.y
  | .SP => s.sp

/-- `x[r] <- v` (R8, R10, R11). -/
def State.setReg (s : State) (r : Reg) (v : Byte) : State :=
  match r with
  | .A => { s with a := v }
  | .X => { s with x := v }
  | .Y => { s with y := v }
  | .SP => { s with sp := v }

/-- `pc <- target` (R9, R62). -/
def State.setPc (s : State) (target : Word) : State := { s with pc := target }

/-- Replace the whole status byte. -/
def State.setP (s : State) (p : Byte) : State := { s with p := p }

/-- `P.f` (R8, R13). -/
def State.flag (s : State) (f : Flag) : Bool := getFlag s.p f

/-- `P.f <- v` (R8, R90). -/
def State.setFlag (s : State) (f : Flag) (v : Bool) : State := s.setP (Machine.setFlag s.p f v)

/-- `SetZN(v)` (R91). -/
def State.setZN (s : State) (v : Byte) : State := s.setP (Machine.setZN s.p v)

/-- `MemRead(addr, 1)` (R30). No address faults and no read has a side effect (R33). -/
def State.readByte (s : State) (addr : Word) : Byte := s.mem.read addr.toNat

/-- `MemWrite(addr, 1, v)` (R30). -/
def State.writeByte (s : State) (addr : Word) (v : Byte) : State := { s with mem := s.mem.write addr.toNat v }

/-- `MemRead(addr, 2)`: little-endian, the second address reduced modulo 65536 (R31). -/
def State.readWord (s : State) (addr : Word) : Word := hilo (s.readByte (addr + 1)) (s.readByte addr)

/-! ### The stack (R43 to R45) -/

/-- `0x0100 | SP`: never outside the stack page (R11, R45). -/
def stackAddr (sp : Byte) : Word := Config.stackBase ||| zext16 sp

/-- `Push8(v)`: write at the old `SP`, then decrement it modulo 256 (R43). -/
def push8 (v : Byte) (s : State) : State :=
  (s.writeByte (stackAddr s.sp) v).setReg .SP (s.sp - 1)

/-- `Pull8()`: increment `SP` modulo 256, then read at the new one (R44). -/
def pull8 (s : State) : Byte × State :=
  let sp := s.sp + 1
  (s.readByte (stackAddr sp), s.setReg .SP sp)

/-- `Push16(w)`: high byte first (R45). -/
def push16 (w : Word) (s : State) : State := push8 (lo8 w) (push8 (hi8 w) s)

/-- `Pull16()`: low byte first (R45). -/
def pull16 (s : State) : Word × State :=
  let (lo, s1) := pull8 s
  let (hi, s2) := pull8 s1
  (hilo hi lo, s2)

/-! ### Fetch and program-counter commit (R61, R62) -/

/-- The default advance: `PC <- (pc + len) mod 65536` (R62). -/
def advance (len : Nat) (s : State) : State := s.setPc (s.pc + BitVec.ofNat 16 len)

/-- The three bytes from `PC` on, addresses modulo 65536; the decoder uses as many as the opcode's format takes (R50,
R53, R61). A read has no side effect, so a byte that is not used makes no difference (R33). -/
def fetchBytes (s : State) : List Byte :=
  [s.readByte s.pc, s.readByte (s.pc + 1), s.readByte (s.pc + 2)]

/-! ### The software trap: entry and return -/

/-- Trap entry (R202, R237): push the return address and the status copy with bits 4 and 5 set, then set `P.I`, then take
the program counter from the vector, which is read after the pushes. No mode changes and no other flag does. -/
def enterTrap (returnAddr vector : Word) (s : State) : State :=
  let s := push8 (pushedStatus s.p) (push16 returnAddr s)
  let s := s.setFlag .I true
  s.setPc (s.readWord vector)

/-- Trap return (R203, R239): pull the status byte, whose bits 4 and 5 are discarded, then the address, and continue
exactly there. -/
def returnFromTrap (s : State) : State :=
  let (v, s1) := pull8 s
  let (target, s2) := pull16 (s1.setP (pulledStatus v))
  s2.setPc target

/-! ### The host's transactions (R4) -/

/-- `boot` with the parameter `SP_RESET` as an argument (R261, R3): writes `SP` and `PC` and nothing else. -/
def bootWith (spReset : Byte) (s : State) : State :=
  (s.setReg .SP spReset).setPc (s.readWord Config.vecReset)

/-- `boot` (R261). A second one has the same meaning (R262). -/
def boot (s : State) : State := bootWith Config.spReset s

/-- A host memory write: the meaning of `MemWrite`, between `construct` and `boot` (R4, R6, R47). -/
def hostWrite (addr : Word) (v : Byte) (s : State) : State := s.writeByte addr v

/-- Write bytes one after another from an address up, addresses modulo 65536. -/
def storeBytes : Word → List Byte → State → State
  | _, [], s => s
  | addr, v :: rest, s => storeBytes (addr + 1) rest (s.writeByte addr v)

/-- Load a memory image: index `i` of the image to address `i` (R47). -/
def loadImage (image : List Byte) (s : State) : State := storeBytes 0x0000 image s

end Sys2Proof.Machine
end

