-- ==== Sys2Proof/Machine/Operands.lean ====
section
/-!
DEFINITION. The addressing-mode resolver (spec/40_addressing_modes.md): one effective-address computation per mode (R71 to
R83), and the operand read and write-back every operation goes through (R84). The resolver changes no state (R70, R86).
-/

namespace Sys2Proof.Machine

/-- The pointer that (Indirect,X) and (Indirect),Y read: both bytes come from the zero page (R82, R83). -/
def zeroPagePointer (s : State) (z : Byte) : Word :=
  hilo (s.readByte (zext16 (z + 1))) (s.readByte (zext16 z))

/-- Where the high byte of an indirect jump's pointer lies: in the same page as the low byte (R81). -/
def samePageNext (ptr : Word) : Word := (ptr &&& 0xFF00) ||| ((ptr + 1) &&& 0x00FF)

/-- Indirect: the jump target read through a pointer, with the page-boundary wraparound of the original chip (R81). -/
def indirectTarget (ptr : Word) (s : State) : Word :=
  hilo (s.readByte (samePageNext ptr)) (s.readByte ptr)

/-- Relative: the address of the next instruction plus the signed offset, modulo 65536 (R77). -/
def relativeTarget (b1 : Byte) (s : State) : Word := s.pc + 2 + sext16 b1

end Sys2Proof.Machine

namespace Sys2Proof

open Machine in
/-- The effective address of the eight memory modes (R74 to R76, R78 to R80, R82, R83). -/
def MemMode.ea : MemMode → State → Word
  | .zp b1, _ => zext16 b1
  | .zpx b1, s => zext16 (b1 + s.x)
  | .zpy b1, s => zext16 (b1 + s.y)
  | .abs w, _ => w
  | .absx w, s => w + zext16 s.x
  | .absy w, s => w + zext16 s.y
  | .indx b1, s => zeroPagePointer s (b1 + s.x)
  | .indy b1, s => zeroPagePointer s b1 + zext16 s.y

end Sys2Proof

namespace Sys2Proof.Machine

/-- What the resolver hands to the operation (R70). -/
inductive Resolved
  /-- Implied: no operand. -/
  | nothing
  /-- The accumulator is the operand's location. -/
  | accumulator
  /-- The operand is a literal byte. -/
  | immediate (v : Byte)
  /-- The effective address. -/
  | address (ea : Word)
deriving DecidableEq, Repr

/-- The resolver over all thirteen modes (R70 to R83). -/
def resolve (m : Mode) (s : State) : Resolved :=
  match m with
  | .imp => .nothing
  | .acc => .accumulator
  | .imm b1 => .immediate b1
  | .mem m => .address (m.ea s)
  | .rel b1 => .address (relativeTarget b1 s)
  | .ind w => .address (indirectTarget w s)

/-- `Operand()` (R84): the literal byte, `A`, or the byte at the effective address. The modes that resolve to nothing have
none. -/
def Resolved.operand : Resolved → State → Option Byte
  | .nothing, _ => none
  | .accumulator, s => some s.a
  | .immediate v, _ => some v
  | .address ea, s => some (s.readByte ea)

/-- Where an operation that only reads finds its operand (R85). -/
inductive Src
  | imm (b1 : Byte)
  | mem (m : MemMode)
deriving DecidableEq, Repr

/-- Where a read-modify-write operation finds its operand and leaves its result (R85). -/
inductive Dst
  | acc
  | mem (m : MemMode)
deriving DecidableEq, Repr

/-- `Operand()` of a read operation (R84): the literal byte, or one read of the effective address. -/
def Src.operand : Src → State → Byte
  | .imm b1, _ => b1
  | .mem m, s => s.readByte (m.ea s)

/-- The instruction length of a read operation (R52). -/
def Src.length : Src → Nat
  | .imm _ => 2
  | .mem m => m.length

/-- `Operand()` of a read-modify-write operation (R84): `A`, or one read of the effective address. -/
def Dst.operand : Dst → State → Byte
  | .acc, s => s.a
  | .mem m, s => s.readByte (m.ea s)

/-- `WriteBack(v)` (R84): `A <- v`, or one write of the effective address. -/
def Dst.writeBack (d : Dst) (v : Byte) (s : State) : State :=
  match d with
  | .acc => s.setReg .A v
  | .mem m => s.writeByte (m.ea s) v

/-- The instruction length of a read-modify-write operation (R52). -/
def Dst.length : Dst → Nat
  | .acc => 1
  | .mem m => m.length

end Sys2Proof.Machine
end

