-- ==== Sys2Proof/Machine/Arithmetic.lean ====
section
/-!
DEFINITION. The arithmetic instructions ADC and SBC (spec/42_arithmetic.md). Binary whatever the decimal flag (R103; log entry 7).
-/

namespace Sys2Proof.Machine

/-- `A <- r` with the four flags of an addition: C, V, Z, N (R110, R111). -/
def takeSum (sum : Sum) (s : State) : State :=
  (((s.setReg .A sum.result).setFlag .C sum.carry).setFlag .V sum.overflow).setZN sum.result

/-- ADC in any mode (R110): the carry is added in; `P.D` is not read (R103). -/
def adc (src : Src) (s : State) : Result :=
  .next (advance src.length (takeSum (add8 s.a (src.operand s) (s.flag .C)) s))

/-- SBC in any mode (R111): the complement is added, so a carry of 1 means no borrow; `P.D` is not read (R103). -/
def sbc (src : Src) (s : State) : Result :=
  .next (advance src.length (takeSum (sub8 s.a (src.operand s) (s.flag .C)) s))

/-- ADC Immediate, opcode `69` (R110, R73). -/
def execAdcImm (b1 : Byte) (s : State) : Result := adc (.imm b1) s

/-- ADC Zero Page, opcode `65` (R110, R74). -/
def execAdcZp (b1 : Byte) (s : State) : Result := adc (.mem (.zp b1)) s

/-- ADC Zero Page,X, opcode `75` (R110, R75). -/
def execAdcZpx (b1 : Byte) (s : State) : Result := adc (.mem (.zpx b1)) s

/-- ADC Absolute, opcode `6D` (R110, R78). -/
def execAdcAbs (w : Word) (s : State) : Result := adc (.mem (.abs w)) s

/-- ADC Absolute,X, opcode `7D` (R110, R79). -/
def execAdcAbsx (w : Word) (s : State) : Result := adc (.mem (.absx w)) s

/-- ADC Absolute,Y, opcode `79` (R110, R80). -/
def execAdcAbsy (w : Word) (s : State) : Result := adc (.mem (.absy w)) s

/-- ADC (Indirect,X), opcode `61` (R110, R82). -/
def execAdcIndx (b1 : Byte) (s : State) : Result := adc (.mem (.indx b1)) s

/-- ADC (Indirect),Y, opcode `71` (R110, R83). -/
def execAdcIndy (b1 : Byte) (s : State) : Result := adc (.mem (.indy b1)) s

/-- SBC Immediate, opcode `E9` (R111, R73). -/
def execSbcImm (b1 : Byte) (s : State) : Result := sbc (.imm b1) s

/-- SBC Zero Page, opcode `E5` (R111, R74). -/
def execSbcZp (b1 : Byte) (s : State) : Result := sbc (.mem (.zp b1)) s

/-- SBC Zero Page,X, opcode `F5` (R111, R75). -/
def execSbcZpx (b1 : Byte) (s : State) : Result := sbc (.mem (.zpx b1)) s

/-- SBC Absolute, opcode `ED` (R111, R78). -/
def execSbcAbs (w : Word) (s : State) : Result := sbc (.mem (.abs w)) s

/-- SBC Absolute,X, opcode `FD` (R111, R79). -/
def execSbcAbsx (w : Word) (s : State) : Result := sbc (.mem (.absx w)) s

/-- SBC Absolute,Y, opcode `F9` (R111, R80). -/
def execSbcAbsy (w : Word) (s : State) : Result := sbc (.mem (.absy w)) s

/-- SBC (Indirect,X), opcode `E1` (R111, R82). -/
def execSbcIndx (b1 : Byte) (s : State) : Result := sbc (.mem (.indx b1)) s

/-- SBC (Indirect),Y, opcode `F1` (R111, R83). -/
def execSbcIndy (b1 : Byte) (s : State) : Result := sbc (.mem (.indy b1)) s

end Sys2Proof.Machine
end

