-- ==== Sys2Proof/Machine/CompareStep.lean ====
section
/-!
DEFINITION. The compares CMP, CPX, CPY and the increments and decrements INC, DEC, INX, INY, DEX, DEY (spec/45_compare_incdec.md).
-/

namespace Sys2Proof.Machine

/-- CMP, CPX and CPY in any mode: only the flags C, Z and N are written (R140 to R142). -/
def compareReg (r : Reg) (src : Src) (s : State) : Result :=
  .next (advance src.length (s.setP (cmp8 s.p (s.reg r) (src.operand s))))

/-- INC and DEC in any mode: one read then one write of `ea`, Z and N of the byte written, no carry (R143, R144). -/
def stepMemory (f : Byte → Byte) (m : MemMode) (s : State) : Result :=
  let ea := m.ea s
  let r := f (s.readByte ea)
  .next (advance m.length ((s.writeByte ea r).setZN r))

/-- INX, INY, DEX and DEY: Z and N of the new register, no carry (R145 to R148). -/
def stepRegister (f : Byte → Byte) (r : Reg) (s : State) : Result :=
  let v := f (s.reg r)
  .next (advance 1 ((s.setReg r v).setZN v))

/-- CMP Immediate, opcode `C9` (R140, R73). -/
def execCmpImm (b1 : Byte) (s : State) : Result := compareReg .A (.imm b1) s

/-- CMP Zero Page, opcode `C5` (R140, R74). -/
def execCmpZp (b1 : Byte) (s : State) : Result := compareReg .A (.mem (.zp b1)) s

/-- CMP Zero Page,X, opcode `D5` (R140, R75). -/
def execCmpZpx (b1 : Byte) (s : State) : Result := compareReg .A (.mem (.zpx b1)) s

/-- CMP Absolute, opcode `CD` (R140, R78). -/
def execCmpAbs (w : Word) (s : State) : Result := compareReg .A (.mem (.abs w)) s

/-- CMP Absolute,X, opcode `DD` (R140, R79). -/
def execCmpAbsx (w : Word) (s : State) : Result := compareReg .A (.mem (.absx w)) s

/-- CMP Absolute,Y, opcode `D9` (R140, R80). -/
def execCmpAbsy (w : Word) (s : State) : Result := compareReg .A (.mem (.absy w)) s

/-- CMP (Indirect,X), opcode `C1` (R140, R82). -/
def execCmpIndx (b1 : Byte) (s : State) : Result := compareReg .A (.mem (.indx b1)) s

/-- CMP (Indirect),Y, opcode `D1` (R140, R83). -/
def execCmpIndy (b1 : Byte) (s : State) : Result := compareReg .A (.mem (.indy b1)) s

/-- CPX Immediate, opcode `E0` (R141, R73). -/
def execCpxImm (b1 : Byte) (s : State) : Result := compareReg .X (.imm b1) s

/-- CPX Zero Page, opcode `E4` (R141, R74). -/
def execCpxZp (b1 : Byte) (s : State) : Result := compareReg .X (.mem (.zp b1)) s

/-- CPX Absolute, opcode `EC` (R141, R78). -/
def execCpxAbs (w : Word) (s : State) : Result := compareReg .X (.mem (.abs w)) s

/-- CPY Immediate, opcode `C0` (R142, R73). -/
def execCpyImm (b1 : Byte) (s : State) : Result := compareReg .Y (.imm b1) s

/-- CPY Zero Page, opcode `C4` (R142, R74). -/
def execCpyZp (b1 : Byte) (s : State) : Result := compareReg .Y (.mem (.zp b1)) s

/-- CPY Absolute, opcode `CC` (R142, R78). -/
def execCpyAbs (w : Word) (s : State) : Result := compareReg .Y (.mem (.abs w)) s

/-- INC Zero Page, opcode `E6` (R143, R74). -/
def execIncZp (b1 : Byte) (s : State) : Result := stepMemory inc8 (.zp b1) s

/-- INC Zero Page,X, opcode `F6` (R143, R75). -/
def execIncZpx (b1 : Byte) (s : State) : Result := stepMemory inc8 (.zpx b1) s

/-- INC Absolute, opcode `EE` (R143, R78). -/
def execIncAbs (w : Word) (s : State) : Result := stepMemory inc8 (.abs w) s

/-- INC Absolute,X, opcode `FE` (R143, R79). -/
def execIncAbsx (w : Word) (s : State) : Result := stepMemory inc8 (.absx w) s

/-- DEC Zero Page, opcode `C6` (R144, R74). -/
def execDecZp (b1 : Byte) (s : State) : Result := stepMemory dec8 (.zp b1) s

/-- DEC Zero Page,X, opcode `D6` (R144, R75). -/
def execDecZpx (b1 : Byte) (s : State) : Result := stepMemory dec8 (.zpx b1) s

/-- DEC Absolute, opcode `CE` (R144, R78). -/
def execDecAbs (w : Word) (s : State) : Result := stepMemory dec8 (.abs w) s

/-- DEC Absolute,X, opcode `DE` (R144, R79). -/
def execDecAbsx (w : Word) (s : State) : Result := stepMemory dec8 (.absx w) s

/-- INX Implied, opcode `E8` (R145, R71). -/
def execInx (s : State) : Result := stepRegister inc8 .X s

/-- INY Implied, opcode `C8` (R146, R71). -/
def execIny (s : State) : Result := stepRegister inc8 .Y s

/-- DEX Implied, opcode `CA` (R147, R71). -/
def execDex (s : State) : Result := stepRegister dec8 .X s

/-- DEY Implied, opcode `88` (R148, R71). -/
def execDey (s : State) : Result := stepRegister dec8 .Y s

end Sys2Proof.Machine
end

