-- ==== Sys2Proof/Machine/Control.lean ====
section
/-!
DEFINITION. The control-flow instructions JMP, JSR, RTS, the eight branches, BRK and RTI (spec/48_control_flow.md). Each sets the program counter itself (R62).
-/

namespace Sys2Proof.Machine

/-- The rule common to the eight branches: taken to the relative target, else the default advance of 2 (R193). -/
def branch (taken : Bool) (b1 : Byte) (s : State) : Result :=
  if taken then .next (s.setPc (relativeTarget b1 s)) else .next (advance 2 s)

/-- JMP Absolute, opcode `4C` (R190, R78). -/
def execJmpAbs (w : Word) (s : State) : Result := .next (s.setPc w)

/-- JMP Indirect, opcode `6C` (R190, R81). -/
def execJmpInd (w : Word) (s : State) : Result := .next (s.setPc (indirectTarget w s))

/-- JSR Absolute, opcode `20` (R191, R78): pushes the address of its own last byte. -/
def execJsr (w : Word) (s : State) : Result := .next ((push16 (s.pc + 2) s).setPc w)

/-- RTS Implied, opcode `60` (R192, R71): continues one after the pulled address. -/
def execRts (s : State) : Result :=
  let (ret, s1) := pull16 s
  .next (s1.setPc (ret + 1))

/-- BCC Relative, opcode `90` (R194, R77). -/
def execBcc (b1 : Byte) (s : State) : Result := branch (!s.flag .C) b1 s

/-- BCS Relative, opcode `B0` (R195, R77). -/
def execBcs (b1 : Byte) (s : State) : Result := branch (s.flag .C) b1 s

/-- BEQ Relative, opcode `F0` (R196, R77). -/
def execBeq (b1 : Byte) (s : State) : Result := branch (s.flag .Z) b1 s

/-- BNE Relative, opcode `D0` (R197, R77). -/
def execBne (b1 : Byte) (s : State) : Result := branch (!s.flag .Z) b1 s

/-- BMI Relative, opcode `30` (R198, R77). -/
def execBmi (b1 : Byte) (s : State) : Result := branch (s.flag .N) b1 s

/-- BPL Relative, opcode `10` (R199, R77). -/
def execBpl (b1 : Byte) (s : State) : Result := branch (!s.flag .N) b1 s

/-- BVC Relative, opcode `50` (R200, R77). -/
def execBvc (b1 : Byte) (s : State) : Result := branch (!s.flag .V) b1 s

/-- BVS Relative, opcode `70` (R201, R77). -/
def execBvs (b1 : Byte) (s : State) : Result := branch (s.flag .V) b1 s

/-- BRK Implied, opcode `00` (R202, R71): the software trap; the byte after the opcode is skipped. -/
def execBrk (s : State) : Result := .next (enterTrap (s.pc + 2) Config.vecBrk s)

/-- RTI Implied, opcode `40` (R203, R71). -/
def execRti (s : State) : Result := .next (returnFromTrap s)

end Sys2Proof.Machine
end

