-- ==== Sys2Proof/Machine/FlagOps.lean ====
section
/-!
DEFINITION. The flag instructions CLC, SEC, CLI, SEI, CLV, CLD, SED, and NOP (spec/49_flagops_nop.md).
-/

namespace Sys2Proof.Machine

/-- The seven flag instructions write exactly one bit of `P` (R215 to R221). -/
def writeFlag (f : Flag) (v : Bool) (s : State) : Result := .next (advance 1 (s.setFlag f v))

/-- CLC Implied, opcode `18` (R215, R71). -/
def execClc (s : State) : Result := writeFlag .C false s

/-- SEC Implied, opcode `38` (R216, R71). -/
def execSec (s : State) : Result := writeFlag .C true s

/-- CLI Implied, opcode `58` (R217, R71). -/
def execCli (s : State) : Result := writeFlag .I false s

/-- SEI Implied, opcode `78` (R218, R71). -/
def execSei (s : State) : Result := writeFlag .I true s

/-- CLV Implied, opcode `B8` (R219, R71). -/
def execClv (s : State) : Result := writeFlag .V false s

/-- CLD Implied, opcode `D8` (R220, R71). -/
def execCld (s : State) : Result := writeFlag .D false s

/-- SED Implied, opcode `F8` (R221, R71). -/
def execSed (s : State) : Result := writeFlag .D true s

/-- NOP Implied, opcode `EA` (R222, R71). -/
def execNop (s : State) : Result := .next (advance 1 s)

end Sys2Proof.Machine
end

