-- ==== Sys2Proof/Machine/LoadStore.lean ====
section
/-!
DEFINITION. The loads LDA, LDX, LDY and the stores STA, STX, STY (spec/46_load_store.md).
-/

namespace Sys2Proof.Machine

/-- LDA, LDX and LDY in any mode: the register takes the operand byte, Z and N follow it (R155 to R157). -/
def loadReg (r : Reg) (src : Src) (s : State) : Result :=
  let v := src.operand s
  .next (advance src.length ((s.setReg r v).setZN v))

/-- STA, STX and STY in any mode: one write of `ea`, no flag (R158 to R160). -/
def storeReg (r : Reg) (m : MemMode) (s : State) : Result :=
  .next (advance m.length (s.writeByte (m.ea s) (s.reg r)))

/-- LDA Immediate, opcode `A9` (R155, R73). -/
def execLdaImm (b1 : Byte) (s : State) : Result := loadReg .A (.imm b1) s

/-- LDA Zero Page, opcode `A5` (R155, R74). -/
def execLdaZp (b1 : Byte) (s : State) : Result := loadReg .A (.mem (.zp b1)) s

/-- LDA Zero Page,X, opcode `B5` (R155, R75). -/
def execLdaZpx (b1 : Byte) (s : State) : Result := loadReg .A (.mem (.zpx b1)) s

/-- LDA Absolute, opcode `AD` (R155, R78). -/
def execLdaAbs (w : Word) (s : State) : Result := loadReg .A (.mem (.abs w)) s

/-- LDA Absolute,X, opcode `BD` (R155, R79). -/
def execLdaAbsx (w : Word) (s : State) : Result := loadReg .A (.mem (.absx w)) s

/-- LDA Absolute,Y, opcode `B9` (R155, R80). -/
def execLdaAbsy (w : Word) (s : State) : Result := loadReg .A (.mem (.absy w)) s

/-- LDA (Indirect,X), opcode `A1` (R155, R82). -/
def execLdaIndx (b1 : Byte) (s : State) : Result := loadReg .A (.mem (.indx b1)) s

/-- LDA (Indirect),Y, opcode `B1` (R155, R83). -/
def execLdaIndy (b1 : Byte) (s : State) : Result := loadReg .A (.mem (.indy b1)) s

/-- LDX Immediate, opcode `A2` (R156, R73). -/
def execLdxImm (b1 : Byte) (s : State) : Result := loadReg .X (.imm b1) s

/-- LDX Zero Page, opcode `A6` (R156, R74). -/
def execLdxZp (b1 : Byte) (s : State) : Result := loadReg .X (.mem (.zp b1)) s

/-- LDX Zero Page,Y, opcode `B6` (R156, R76). -/
def execLdxZpy (b1 : Byte) (s : State) : Result := loadReg .X (.mem (.zpy b1)) s

/-- LDX Absolute, opcode `AE` (R156, R78). -/
def execLdxAbs (w : Word) (s : State) : Result := loadReg .X (.mem (.abs w)) s

/-- LDX Absolute,Y, opcode `BE` (R156, R80). -/
def execLdxAbsy (w : Word) (s : State) : Result := loadReg .X (.mem (.absy w)) s

/-- LDY Immediate, opcode `A0` (R157, R73). -/
def execLdyImm (b1 : Byte) (s : State) : Result := loadReg .Y (.imm b1) s

/-- LDY Zero Page, opcode `A4` (R157, R74). -/
def execLdyZp (b1 : Byte) (s : State) : Result := loadReg .Y (.mem (.zp b1)) s

/-- LDY Zero Page,X, opcode `B4` (R157, R75). -/
def execLdyZpx (b1 : Byte) (s : State) : Result := loadReg .Y (.mem (.zpx b1)) s

/-- LDY Absolute, opcode `AC` (R157, R78). -/
def execLdyAbs (w : Word) (s : State) : Result := loadReg .Y (.mem (.abs w)) s

/-- LDY Absolute,X, opcode `BC` (R157, R79). -/
def execLdyAbsx (w : Word) (s : State) : Result := loadReg .Y (.mem (.absx w)) s

/-- STA Zero Page, opcode `85` (R158, R74). -/
def execStaZp (b1 : Byte) (s : State) : Result := storeReg .A (.zp b1) s

/-- STA Zero Page,X, opcode `95` (R158, R75). -/
def execStaZpx (b1 : Byte) (s : State) : Result := storeReg .A (.zpx b1) s

/-- STA Absolute, opcode `8D` (R158, R78). -/
def execStaAbs (w : Word) (s : State) : Result := storeReg .A (.abs w) s

/-- STA Absolute,X, opcode `9D` (R158, R79). -/
def execStaAbsx (w : Word) (s : State) : Result := storeReg .A (.absx w) s

/-- STA Absolute,Y, opcode `99` (R158, R80). -/
def execStaAbsy (w : Word) (s : State) : Result := storeReg .A (.absy w) s

/-- STA (Indirect,X), opcode `81` (R158, R82). -/
def execStaIndx (b1 : Byte) (s : State) : Result := storeReg .A (.indx b1) s

/-- STA (Indirect),Y, opcode `91` (R158, R83). -/
def execStaIndy (b1 : Byte) (s : State) : Result := storeReg .A (.indy b1) s

/-- STX Zero Page, opcode `86` (R159, R74). -/
def execStxZp (b1 : Byte) (s : State) : Result := storeReg .X (.zp b1) s

/-- STX Zero Page,Y, opcode `96` (R159, R76). -/
def execStxZpy (b1 : Byte) (s : State) : Result := storeReg .X (.zpy b1) s

/-- STX Absolute, opcode `8E` (R159, R78). -/
def execStxAbs (w : Word) (s : State) : Result := storeReg .X (.abs w) s

/-- STY Zero Page, opcode `84` (R160, R74). -/
def execStyZp (b1 : Byte) (s : State) : Result := storeReg .Y (.zp b1) s

/-- STY Zero Page,X, opcode `94` (R160, R75). -/
def execStyZpx (b1 : Byte) (s : State) : Result := storeReg .Y (.zpx b1) s

/-- STY Absolute, opcode `8C` (R160, R78). -/
def execStyAbs (w : Word) (s : State) : Result := storeReg .Y (.abs w) s

end Sys2Proof.Machine
end

