-- ==== Sys2Proof/Machine/Logic.lean ====
section
/-!
DEFINITION. The logical instructions AND, ORA, EOR and BIT (spec/43_logical.md).
-/

namespace Sys2Proof.Machine

/-- AND, ORA and EOR in any mode: `A <- f(A, m)`, then Z and N of the new `A` (R101, R120 to R122). -/
def logic (f : Byte → Byte → Byte) (src : Src) (s : State) : Result :=
  let r := f s.a (src.operand s)
  .next (advance src.length ((s.setReg .A r).setZN r))

/-- BIT in any mode: Z of `A & m`, N and V from `m` alone; no register is written (R123). -/
def bitTest (m : MemMode) (s : State) : Result :=
  .next (advance m.length (s.setP (bitFlags s.p s.a (s.readByte (m.ea s)))))

/-- AND Immediate, opcode `29` (R120, R73). -/
def execAndImm (b1 : Byte) (s : State) : Result := logic (· &&& ·) (.imm b1) s

/-- AND Zero Page, opcode `25` (R120, R74). -/
def execAndZp (b1 : Byte) (s : State) : Result := logic (· &&& ·) (.mem (.zp b1)) s

/-- AND Zero Page,X, opcode `35` (R120, R75). -/
def execAndZpx (b1 : Byte) (s : State) : Result := logic (· &&& ·) (.mem (.zpx b1)) s

/-- AND Absolute, opcode `2D` (R120, R78). -/
def execAndAbs (w : Word) (s : State) : Result := logic (· &&& ·) (.mem (.abs w)) s

/-- AND Absolute,X, opcode `3D` (R120, R79). -/
def execAndAbsx (w : Word) (s : State) : Result := logic (· &&& ·) (.mem (.absx w)) s

/-- AND Absolute,Y, opcode `39` (R120, R80). -/
def execAndAbsy (w : Word) (s : State) : Result := logic (· &&& ·) (.mem (.absy w)) s

/-- AND (Indirect,X), opcode `21` (R120, R82). -/
def execAndIndx (b1 : Byte) (s : State) : Result := logic (· &&& ·) (.mem (.indx b1)) s

/-- AND (Indirect),Y, opcode `31` (R120, R83). -/
def execAndIndy (b1 : Byte) (s : State) : Result := logic (· &&& ·) (.mem (.indy b1)) s

/-- ORA Immediate, opcode `09` (R121, R73). -/
def execOraImm (b1 : Byte) (s : State) : Result := logic (· ||| ·) (.imm b1) s

/-- ORA Zero Page, opcode `05` (R121, R74). -/
def execOraZp (b1 : Byte) (s : State) : Result := logic (· ||| ·) (.mem (.zp b1)) s

/-- ORA Zero Page,X, opcode `15` (R121, R75). -/
def execOraZpx (b1 : Byte) (s : State) : Result := logic (· ||| ·) (.mem (.zpx b1)) s

/-- ORA Absolute, opcode `0D` (R121, R78). -/
def execOraAbs (w : Word) (s : State) : Result := logic (· ||| ·) (.mem (.abs w)) s

/-- ORA Absolute,X, opcode `1D` (R121, R79). -/
def execOraAbsx (w : Word) (s : State) : Result := logic (· ||| ·) (.mem (.absx w)) s

/-- ORA Absolute,Y, opcode `19` (R121, R80). -/
def execOraAbsy (w : Word) (s : State) : Result := logic (· ||| ·) (.mem (.absy w)) s

/-- ORA (Indirect,X), opcode `01` (R121, R82). -/
def execOraIndx (b1 : Byte) (s : State) : Result := logic (· ||| ·) (.mem (.indx b1)) s

/-- ORA (Indirect),Y, opcode `11` (R121, R83). -/
def execOraIndy (b1 : Byte) (s : State) : Result := logic (· ||| ·) (.mem (.indy b1)) s

/-- EOR Immediate, opcode `49` (R122, R73). -/
def execEorImm (b1 : Byte) (s : State) : Result := logic (· ^^^ ·) (.imm b1) s

/-- EOR Zero Page, opcode `45` (R122, R74). -/
def execEorZp (b1 : Byte) (s : State) : Result := logic (· ^^^ ·) (.mem (.zp b1)) s

/-- EOR Zero Page,X, opcode `55` (R122, R75). -/
def execEorZpx (b1 : Byte) (s : State) : Result := logic (· ^^^ ·) (.mem (.zpx b1)) s

/-- EOR Absolute, opcode `4D` (R122, R78). -/
def execEorAbs (w : Word) (s : State) : Result := logic (· ^^^ ·) (.mem (.abs w)) s

/-- EOR Absolute,X, opcode `5D` (R122, R79). -/
def execEorAbsx (w : Word) (s : State) : Result := logic (· ^^^ ·) (.mem (.absx w)) s

/-- EOR Absolute,Y, opcode `59` (R122, R80). -/
def execEorAbsy (w : Word) (s : State) : Result := logic (· ^^^ ·) (.mem (.absy w)) s

/-- EOR (Indirect,X), opcode `41` (R122, R82). -/
def execEorIndx (b1 : Byte) (s : State) : Result := logic (· ^^^ ·) (.mem (.indx b1)) s

/-- EOR (Indirect),Y, opcode `51` (R122, R83). -/
def execEorIndy (b1 : Byte) (s : State) : Result := logic (· ^^^ ·) (.mem (.indy b1)) s

/-- BIT Zero Page, opcode `24` (R123, R74). -/
def execBitZp (b1 : Byte) (s : State) : Result := bitTest (.zp b1) s

/-- BIT Absolute, opcode `2C` (R123, R78). -/
def execBitAbs (w : Word) (s : State) : Result := bitTest (.abs w) s

end Sys2Proof.Machine
end

