-- ==== Sys2Proof/Machine/Shifts.lean ====
section
/-!
DEFINITION. The shift and rotate instructions ASL, LSR, ROL and ROR (spec/44_shifts.md).
-/

namespace Sys2Proof.Machine

/-- The access pattern common to the four instructions (R134): one read of the operand, one write of the result in the
same place, C the bit shifted out, Z and N of the byte written. -/
def shift (f : Byte → Bool → Shifted) (dst : Dst) (s : State) : Result :=
  let r := f (dst.operand s) (s.flag .C)
  .next (advance dst.length (((dst.writeBack r.result s).setFlag .C r.carry).setZN r.result))

/-- ASL Accumulator, opcode `0A` (R130, R72). -/
def execAslAcc (s : State) : Result := shift asl8 .acc s

/-- ASL Zero Page, opcode `06` (R130, R74). -/
def execAslZp (b1 : Byte) (s : State) : Result := shift asl8 (.mem (.zp b1)) s

/-- ASL Zero Page,X, opcode `16` (R130, R75). -/
def execAslZpx (b1 : Byte) (s : State) : Result := shift asl8 (.mem (.zpx b1)) s

/-- ASL Absolute, opcode `0E` (R130, R78). -/
def execAslAbs (w : Word) (s : State) : Result := shift asl8 (.mem (.abs w)) s

/-- ASL Absolute,X, opcode `1E` (R130, R79). -/
def execAslAbsx (w : Word) (s : State) : Result := shift asl8 (.mem (.absx w)) s

/-- LSR Accumulator, opcode `4A` (R131, R72). -/
def execLsrAcc (s : State) : Result := shift lsr8 .acc s

/-- LSR Zero Page, opcode `46` (R131, R74). -/
def execLsrZp (b1 : Byte) (s : State) : Result := shift lsr8 (.mem (.zp b1)) s

/-- LSR Zero Page,X, opcode `56` (R131, R75). -/
def execLsrZpx (b1 : Byte) (s : State) : Result := shift lsr8 (.mem (.zpx b1)) s

/-- LSR Absolute, opcode `4E` (R131, R78). -/
def execLsrAbs (w : Word) (s : State) : Result := shift lsr8 (.mem (.abs w)) s

/-- LSR Absolute,X, opcode `5E` (R131, R79). -/
def execLsrAbsx (w : Word) (s : State) : Result := shift lsr8 (.mem (.absx w)) s

/-- ROL Accumulator, opcode `2A` (R132, R72). -/
def execRolAcc (s : State) : Result := shift rol8 .acc s

/-- ROL Zero Page, opcode `26` (R132, R74). -/
def execRolZp (b1 : Byte) (s : State) : Result := shift rol8 (.mem (.zp b1)) s

/-- ROL Zero Page,X, opcode `36` (R132, R75). -/
def execRolZpx (b1 : Byte) (s : State) : Result := shift rol8 (.mem (.zpx b1)) s

/-- ROL Absolute, opcode `2E` (R132, R78). -/
def execRolAbs (w : Word) (s : State) : Result := shift rol8 (.mem (.abs w)) s

/-- ROL Absolute,X, opcode `3E` (R132, R79). -/
def execRolAbsx (w : Word) (s : State) : Result := shift rol8 (.mem (.absx w)) s

/-- ROR Accumulator, opcode `6A` (R133, R72). -/
def execRorAcc (s : State) : Result := shift ror8 .acc s

/-- ROR Zero Page, opcode `66` (R133, R74). -/
def execRorZp (b1 : Byte) (s : State) : Result := shift ror8 (.mem (.zp b1)) s

/-- ROR Zero Page,X, opcode `76` (R133, R75). -/
def execRorZpx (b1 : Byte) (s : State) : Result := shift ror8 (.mem (.zpx b1)) s

/-- ROR Absolute, opcode `6E` (R133, R78). -/
def execRorAbs (w : Word) (s : State) : Result := shift ror8 (.mem (.abs w)) s

/-- ROR Absolute,X, opcode `7E` (R133, R79). -/
def execRorAbsx (w : Word) (s : State) : Result := shift ror8 (.mem (.absx w)) s

end Sys2Proof.Machine
end

