-- ==== Sys2Proof/Machine/TransferStack.lean ====
section
/-!
DEFINITION. The register transfers TAX, TXA, TAY, TYA, TSX, TXS and the stack instructions PHA, PLA, PHP, PLP (spec/47_transfer_stack.md).
-/

namespace Sys2Proof.Machine

/-- TAX, TXA, TAY, TYA and TSX: copy a register, Z and N of the copied byte (R170 to R174). -/
def transfer (src dst : Reg) (s : State) : Result :=
  let v := s.reg src
  .next (advance 1 ((s.setReg dst v).setZN v))

/-- TAX Implied, opcode `AA` (R170, R71). -/
def execTax (s : State) : Result := transfer .A .X s

/-- TXA Implied, opcode `8A` (R171, R71). -/
def execTxa (s : State) : Result := transfer .X .A s

/-- TAY Implied, opcode `A8` (R172, R71). -/
def execTay (s : State) : Result := transfer .A .Y s

/-- TYA Implied, opcode `98` (R173, R71). -/
def execTya (s : State) : Result := transfer .Y .A s

/-- TSX Implied, opcode `BA` (R174, R71). -/
def execTsx (s : State) : Result := transfer .SP .X s

/-- TXS Implied, opcode `9A` (R175, R71): the one transfer that writes no flag. -/
def execTxs (s : State) : Result := .next (advance 1 (s.setReg .SP s.x))

/-- PHA Implied, opcode `48` (R176, R71). -/
def execPha (s : State) : Result := .next (advance 1 (push8 s.a s))

/-- PLA Implied, opcode `68` (R177, R71). -/
def execPla (s : State) : Result :=
  let (v, s1) := pull8 s
  .next (advance 1 ((s1.setReg .A v).setZN v))

/-- PHP Implied, opcode `08` (R178, R71). -/
def execPhp (s : State) : Result := .next (advance 1 (push8 (pushedStatus s.p) s))

/-- PLP Implied, opcode `28` (R179, R71). -/
def execPlp (s : State) : Result :=
  let (v, s1) := pull8 s
  .next (advance 1 (s1.setP (pulledStatus v)))

end Sys2Proof.Machine
end

