-- ==== Sys2Proof/Machine/Step.lean ====
section
/-!
DEFINITION. One step of the block (spec/30_encoding.md R61): fetch at `PC`, decode, execute; an unassigned opcode is the
reported decode failure (R57, R231). The advance of the program counter is in the meanings (R62).
-/

namespace Sys2Proof.Machine

/-- `step()` (R61). -/
def step (s : State) : Host.Outcome State Fault Refusal :=
  match decode (fetchBytes s) with
  | .ok (i, _) => exec i s
  | .error _ => .fault (.illegalOpcode s.pc (s.readByte s.pc))

/-- The state with an instruction's bytes stored where the next step fetches it: three bytes from `PC` on, those above
`nbits` zero (log entries 3 and 13). -/
def State.withFetchWord (s : State) (nbits w : Nat) : State := storeBytes s.pc (tableBytes nbits w) s

end Sys2Proof.Machine
end

