-- ==== Sys2Proof/Safety.lean ====
section
/-!
DEFINITION. What the claims are stated in: the invariant of a state of the block, a safe run, and the frame of an
instruction.
-/

namespace Sys2Proof.Machine

/-- The invariant of every state the block can be in: memory is in canonical form (log entry 10) and bits 4 and 5 of `P`
are 0 (R14, R22). -/
structure State.Inv (s : State) : Prop where
  memory : s.mem.wf = true
  status : s.p &&& Config.pushedBits = 0

/-- A step that is no decode failure: some next state (R63). -/
def StepCompletes (s : State) : Prop := ∃ t, step s = .next t

/-- `n` steps without a decode failure. The host chooses `n` (R270; log entry 15). -/
def SafeFor (n : Nat) (s : State) : Prop := ∃ t, core.run n s = .next t

/-- No number of steps reaches a decode failure. -/
def Safe (s : State) : Prop := ∀ n, SafeFor n s

/-- The same instruction several times in a row. -/
def execTimes : Nat → Instr → State → Result
  | 0, _, s => .next s
  | k + 1, i, s => match exec i s with
    | .next t => execTimes k i t
    | .fault r => .fault r
    | .refused r => .refused r

/-- What an instruction leaves unchanged between the state before and the state after: every register not in `regs`, every
bit of `P` not in `flags`, every byte of memory whose address is not in `stored`. It says nothing of the program counter. -/
structure Frame (regs : List Reg) (flags : List Flag) (stored : List Word) (s t : State) : Prop where
  registers : ∀ r, r ∉ regs → t.reg r = s.reg r
  status : ∀ f, f ∉ flags → t.flag f = s.flag f
  memory : ∀ addr, addr ∉ stored → t.readByte addr = s.readByte addr

/-! ### What each instruction may change, as the spec's tables list it -/

/-- The opcode bytes of each operation by addressing mode: the per-mnemonic table of R56, line by line. -/
def opcodesOf : Mnemonic → List (ModeTag × Byte)
  | .ADC => [(.imm, 0x69), (.zp, 0x65), (.zpx, 0x75), (.abs, 0x6D), (.absx, 0x7D), (.absy, 0x79), (.indx, 0x61), (.indy, 0x71)]
  | .SBC => [(.imm, 0xE9), (.zp, 0xE5), (.zpx, 0xF5), (.abs, 0xED), (.absx, 0xFD), (.absy, 0xF9), (.indx, 0xE1), (.indy, 0xF1)]
  | .AND => [(.imm, 0x29), (.zp, 0x25), (.zpx, 0x35), (.abs, 0x2D), (.absx, 0x3D), (.absy, 0x39), (.indx, 0x21), (.indy, 0x31)]
  | .ORA => [(.imm, 0x09), (.zp, 0x05), (.zpx, 0x15), (.abs, 0x0D), (.absx, 0x1D), (.absy, 0x19), (.indx, 0x01), (.indy, 0x11)]
  | .EOR => [(.imm, 0x49), (.zp, 0x45), (.zpx, 0x55), (.abs, 0x4D), (.absx, 0x5D), (.absy, 0x59), (.indx, 0x41), (.indy, 0x51)]
  | .BIT => [(.zp, 0x24), (.abs, 0x2C)]
  | .ASL => [(.acc, 0x0A), (.zp, 0x06), (.zpx, 0x16), (.abs, 0x0E), (.absx, 0x1E)]
  | .LSR => [(.acc, 0x4A), (.zp, 0x46), (.zpx, 0x56), (.abs, 0x4E), (.absx, 0x5E)]
  | .ROL => [(.acc, 0x2A), (.zp, 0x26), (.zpx, 0x36), (.abs, 0x2E), (.absx, 0x3E)]
  | .ROR => [(.acc, 0x6A), (.zp, 0x66), (.zpx, 0x76), (.abs, 0x6E), (.absx, 0x7E)]
  | .CMP => [(.imm, 0xC9), (.zp, 0xC5), (.zpx, 0xD5), (.abs, 0xCD), (.absx, 0xDD), (.absy, 0xD9), (.indx, 0xC1), (.indy, 0xD1)]
  | .CPX => [(.imm, 0xE0), (.zp, 0xE4), (.abs, 0xEC)]
  | .CPY => [(.imm, 0xC0), (.zp, 0xC4), (.abs, 0xCC)]
  | .INC => [(.zp, 0xE6), (.zpx, 0xF6), (.abs, 0xEE), (.absx, 0xFE)]
  | .DEC => [(.zp, 0xC6), (.zpx, 0xD6), (.abs, 0xCE), (.absx, 0xDE)]
  | .INX => [(.imp, 0xE8)]
  | .INY => [(.imp, 0xC8)]
  | .DEX => [(.imp, 0xCA)]
  | .DEY => [(.imp, 0x88)]
  | .LDA => [(.imm, 0xA9), (.zp, 0xA5), (.zpx, 0xB5), (.abs, 0xAD), (.absx, 0xBD), (.absy, 0xB9), (.indx, 0xA1), (.indy, 0xB1)]
  | .LDX => [(.imm, 0xA2), (.zp, 0xA6), (.zpy, 0xB6), (.abs, 0xAE), (.absy, 0xBE)]
  | .LDY => [(.imm, 0xA0), (.zp, 0xA4), (.zpx, 0xB4), (.abs, 0xAC), (.absx, 0xBC)]
  | .STA => [(.zp, 0x85), (.zpx, 0x95), (.abs, 0x8D), (.absx, 0x9D), (.absy, 0x99), (.indx, 0x81), (.indy, 0x91)]
  | .STX => [(.zp, 0x86), (.zpy, 0x96), (.abs, 0x8E)]
  | .STY => [(.zp, 0x84), (.zpx, 0x94), (.abs, 0x8C)]
  | .TAX => [(.imp, 0xAA)]
  | .TXA => [(.imp, 0x8A)]
  | .TAY => [(.imp, 0xA8)]
  | .TYA => [(.imp, 0x98)]
  | .TSX => [(.imp, 0xBA)]
  | .TXS => [(.imp, 0x9A)]
  | .PHA => [(.imp, 0x48)]
  | .PLA => [(.imp, 0x68)]
  | .PHP => [(.imp, 0x08)]
  | .PLP => [(.imp, 0x28)]
  | .JMP => [(.abs, 0x4C), (.ind, 0x6C)]
  | .JSR => [(.abs, 0x20)]
  | .RTS => [(.imp, 0x60)]
  | .BCC => [(.rel, 0x90)]
  | .BCS => [(.rel, 0xB0)]
  | .BEQ => [(.rel, 0xF0)]
  | .BNE => [(.rel, 0xD0)]
  | .BMI => [(.rel, 0x30)]
  | .BPL => [(.rel, 0x10)]
  | .BVC => [(.rel, 0x50)]
  | .BVS => [(.rel, 0x70)]
  | .BRK => [(.imp, 0x00)]
  | .RTI => [(.imp, 0x40)]
  | .CLC => [(.imp, 0x18)]
  | .SEC => [(.imp, 0x38)]
  | .CLI => [(.imp, 0x58)]
  | .SEI => [(.imp, 0x78)]
  | .CLV => [(.imp, 0xB8)]
  | .CLD => [(.imp, 0xD8)]
  | .SED => [(.imp, 0xF8)]
  | .NOP => [(.imp, 0xEA)]

/-- The 56 operations, in the order of R56. -/
def allMnemonics : List Mnemonic :=
  [.ADC, .SBC, .AND, .ORA, .EOR, .BIT, .ASL, .LSR,
   .ROL, .ROR, .CMP, .CPX, .CPY, .INC, .DEC, .INX,
   .INY, .DEX, .DEY, .LDA, .LDX, .LDY, .STA, .STX,
   .STY, .TAX, .TXA, .TAY, .TYA, .TSX, .TXS, .PHA,
   .PLA, .PHP, .PLP, .JMP, .JSR, .RTS, .BCC, .BCS,
   .BEQ, .BNE, .BMI, .BPL, .BVC, .BVS, .BRK, .RTI,
   .CLC, .SEC, .CLI, .SEI, .CLV, .CLD, .SED, .NOP]

/-- The flags each operation writes: the columns of R104's table that are not empty in its row (R15). Bits 4 and 5 are
written by none. -/
def flagsWritten : Mnemonic → List Flag
  | .ADC | .SBC => [.C, .Z, .N, .V]
  | .AND | .ORA | .EOR => [.Z, .N]
  | .BIT => [.Z, .N, .V]
  | .ASL | .LSR | .ROL | .ROR => [.C, .Z, .N]
  | .CMP | .CPX | .CPY => [.C, .Z, .N]
  | .INC | .DEC | .INX | .INY | .DEX | .DEY => [.Z, .N]
  | .LDA | .LDX | .LDY => [.Z, .N]
  | .STA | .STX | .STY => []
  | .TAX | .TXA | .TAY | .TYA | .TSX => [.Z, .N]
  | .TXS | .PHA | .PHP => []
  | .PLA => [.Z, .N]
  | .PLP | .RTI => [.C, .Z, .N, .I, .D, .V]
  | .JMP | .JSR | .RTS | .BCC | .BCS | .BEQ | .BNE | .BMI | .BPL | .BVC | .BVS | .NOP => []
  | .BRK => [.I]
  | .CLC | .SEC => [.C]
  | .CLI | .SEI => [.I]
  | .CLD | .SED => [.D]
  | .CLV => [.V]

/-- The registers each instruction writes: the table of R10, and R11 for `SP`. -/
def registersWritten (i : Instr) : List Reg :=
  match i.mnemonic with
  | .ADC | .SBC | .AND | .ORA | .EOR | .LDA | .TXA | .TYA => [.A]
  | .PLA => [.A, .SP]
  | .ASL | .LSR | .ROL | .ROR => if i.mode = .acc then [.A] else []
  | .LDX | .TAX | .TSX | .INX | .DEX => [.X]
  | .LDY | .TAY | .INY | .DEY => [.Y]
  | .TXS | .PHA | .PHP | .PLP | .JSR | .RTS | .BRK | .RTI => [.SP]
  | .BIT | .CMP | .CPX | .CPY | .INC | .DEC | .STA | .STX | .STY => []
  | .JMP | .BCC | .BCS | .BEQ | .BNE | .BMI | .BPL | .BVC | .BVS => []
  | .CLC | .SEC | .CLI | .SEI | .CLV | .CLD | .SED | .NOP => []

/-- The address a resolved operand stands at, if it stands in memory. -/
def Resolved.addresses : Resolved → List Word
  | .address ea => [ea]
  | .nothing | .accumulator | .immediate _ => []

/-- The addresses each instruction writes, in the state it starts from: `ea` for stores and read-modify-writes (R84), the
stack slots for pushes (R43, R45). -/
def storedAddresses (i : Instr) (s : State) : List Word :=
  match i.mnemonic with
  | .STA | .STX | .STY | .INC | .DEC | .ASL | .LSR | .ROL | .ROR => (resolve i.mode s).addresses
  | .PHA | .PHP => [stackAddr s.sp]
  | .JSR => [stackAddr s.sp, stackAddr (s.sp - 1)]
  | .BRK => [stackAddr s.sp, stackAddr (s.sp - 1), stackAddr (s.sp - 2)]
  | .ADC | .SBC | .AND | .ORA | .EOR | .BIT | .CMP | .CPX | .CPY | .INX | .INY | .DEX | .DEY | .LDA | .LDX | .LDY => []
  | .TAX | .TXA | .TAY | .TYA | .TSX | .TXS | .PLA | .PLP | .JMP | .RTS | .RTI => []
  | .BCC | .BCS | .BEQ | .BNE | .BMI | .BPL | .BVC | .BVS => []
  | .CLC | .SEC | .CLI | .SEI | .CLV | .CLD | .SED | .NOP => []

/-- The flag each branch tests and the value that makes it taken: the table of R193. -/
def takenWhen : Mnemonic → Option (Flag × Bool)
  | .BCC => some (.C, false)
  | .BCS => some (.C, true)
  | .BEQ => some (.Z, true)
  | .BNE => some (.Z, false)
  | .BMI => some (.N, true)
  | .BPL => some (.N, false)
  | .BVC => some (.V, false)
  | .BVS => some (.V, true)
  | _ => none

/-- Where a read-modify-write instruction leaves its result, and what else changes (R84, R134): `A`, or the byte at `ea`. -/
def WrittenBack (i : Instr) (result : Byte) (flags : List Flag) (s t : State) : Prop :=
  match resolve i.mode s with
  | .accumulator => t.a = result ∧ Frame [.A] flags [] s t
  | .address ea => t.readByte ea = result ∧ Frame [] flags [ea] s t
  | .nothing | .immediate _ => False

end Sys2Proof.Machine
end

