-- ==== Sys2Proof/Certificates/Slice0/Obligations.lean ====
section
/-!
DEFINITION. The statements about the model, for the provers. Each names the rule of spec/ it formalises. `Frame` says what
an instruction leaves unchanged (Safety.lean), byte by byte through `State.readByte`; `resolve` is the addressing-mode
resolver the meanings use, so a store's address is the one the meaning computes.
-/

open Sys2Proof Sys2Proof.Machine

/-- Decode and encode agree: the bytes of any instruction, followed by anything, decode to that instruction and leave the rest (R50, R51, R53). -/
def Obligations.DecodeOfEncode : Prop :=
  ∀ (i : Instr) (rest : List Byte), decode (encode i ++ rest) = .ok (i, rest)

/-- The other direction: bytes that decode are the encoding of what they decode to, so no byte of an instruction is dropped and each byte string has one meaning (R50, R51). -/
def Obligations.EncodeOfDecode : Prop :=
  ∀ (bytes rest : List Byte) (i : Instr), decode bytes = .ok (i, rest) → bytes = encode i ++ rest

/-- The complete opcode map: the 151 rows of the per-mnemonic table of R56 (opcodesOf) decode to the operation and mode they are printed for, and every instruction stands in its row. -/
def Obligations.OpcodeMapIsTheTable : Prop :=
  (∀ (mn : Mnemonic) (row : ModeTag × Byte) (b1 b2 : Byte), row ∈ opcodesOf mn →
    ∃ i rest, decode [row.2, b1, b2] = .ok (i, rest) ∧ i.mnemonic = mn ∧ i.mode.tag = row.1) ∧
  (∀ i : Instr, (i.mode.tag, i.opcode) ∈ opcodesOf i.mnemonic) ∧
  ((allMnemonics.map fun mn => (opcodesOf mn).length).sum = 151 ∧ ∀ mn, mn ∈ allMnemonics)

/-- Decode is unambiguous: two instructions have the same opcode byte exactly when they have the same operation and the same addressing mode, what an opcode decodes to does not depend on the operand bytes, and every opcode byte is either assigned or one of the 105 unassigned ones (R51). -/
def Obligations.OneOpcodePerOperationAndMode : Prop :=
  (∀ i j : Instr, i.opcode = j.opcode ↔ (i.mnemonic = j.mnemonic ∧ i.mode.tag = j.mode.tag)) ∧
  (∀ (op : Byte) (b1 b2 c1 c2 : Byte) (i j : Instr) (r q : List Byte),
    decode [op, b1, b2] = .ok (i, r) → decode [op, c1, c2] = .ok (j, q) →
      i.mnemonic = j.mnemonic ∧ i.mode.tag = j.mode.tag) ∧
  (∀ op b1 b2 : Byte,
    (decode [op, b1, b2] = .error (.unassigned op) ∧ op ∈ unassignedOpcodes) ∨
    (∃ i r, decode [op, b1, b2] = .ok (i, r) ∧ op ∉ unassignedOpcodes)) ∧
  unassignedOpcodes.length = 105 ∧ unassignedOpcodes.Nodup

/-- The length of an instruction is 1, 2 or 3 by its addressing mode alone (R52), and that many bytes are what its encoding holds. -/
def Obligations.LengthIsFixedByMode : Prop :=
  ∀ i : Instr, (encode i).length = i.length ∧
    (i.mode.tag, i.length) ∈ ([(.imp, 1), (.acc, 1), (.imm, 2), (.zp, 2), (.zpx, 2), (.zpy, 2), (.rel, 2), (.abs, 3),
      (.absx, 3), (.absy, 3), (.ind, 3), (.indx, 2), (.indy, 2)] : List (ModeTag × Nat))

/-- A few instruction words written out from R56 and R59 decode to what they stand for. -/
def Obligations.SampleWordsDecode : Prop :=
  decode [0x18] = .ok (.clc, []) ∧
  decode [0x0A] = .ok (.aslAcc, []) ∧
  decode [0xA9, 0x69] = .ok (.ldaImm 0x69, []) ∧
  decode [0xE6, 0x00] = .ok (.incZp 0x00, []) ∧
  decode [0xB6, 0x10] = .ok (.ldxZpy 0x10, []) ∧
  decode [0xD0, 0xFB] = .ok (.bne 0xFB, []) ∧
  decode [0x4C, 0x00, 0x02] = .ok (.jmpAbs 0x0200, []) ∧
  decode [0x9D, 0x00, 0x03] = .ok (.staAbsx 0x0300, []) ∧
  decode [0x6C, 0xFF, 0x02] = .ok (.jmpInd 0x02FF, []) ∧
  decode [0xA1, 0x20] = .ok (.ldaIndx 0x20, []) ∧
  decode [0x91, 0x20] = .ok (.staIndy 0x20, []) ∧
  decode [0x02, 0x00, 0x00] = .error (.unassigned 0x02)

/-- When the bytes from the program counter on decode to an instruction, a step is exactly that instruction run on the state as it stands: the step adds nothing around it (R61). The advance past the instruction's bytes is in the instruction's own effect (R62). -/
def Obligations.StepRunsTheDecodedInstruction : Prop :=
  ∀ (s : State) (i : Instr) (rest : List Byte),
    decode [s.readByte s.pc, s.readByte (s.pc + 1), s.readByte (s.pc + 2)] = .ok (i, rest) → step s = exec i s

/-- Code and data are one array: an instruction's bytes stored at the program counter are what the very next step runs, with no instruction between, wherever the program counter is and also across the top of memory (R41, R50, R61). -/
def Obligations.StoredInstructionRunsNext : Prop :=
  ∀ (i : Instr) (s : State),
    step (storeBytes s.pc (encode i) s) = exec i (storeBytes s.pc (encode i) s)

/-- A step faults exactly when the byte at the program counter is one of the 105 unassigned opcodes as R57 prints them, with the address and the byte as the report; a run that reaches it stays there. A fault carries no state: nothing has changed. -/
def Obligations.UnassignedOpcodeIsReported : Prop :=
  ∀ s : State,
    (s.readByte s.pc ∈ unassignedOpcodes ↔
      step s = .fault (.illegalOpcode s.pc (s.readByte s.pc))) ∧
    (∀ f, step s = .fault f → f = .illegalOpcode s.pc (s.readByte s.pc) ∧
      ∀ k, core.run (k + 1) s = .fault (.illegalOpcode s.pc (s.readByte s.pc)))

/-- Every instruction completes in every state, and every step completes or is the reported decode failure: there is no other way to stop (R63). -/
def Obligations.StepCompletesOrReports : Prop :=
  (∀ (i : Instr) (s : State), ∃ t, exec i s = .next t) ∧
  (∀ s : State, StepCompletes s ∨ step s = .fault (.illegalOpcode s.pc (s.readByte s.pc)))

/-- Memory keeps what was written last and changes nowhere else; unwritten memory reads as zero (R30). -/
def Obligations.ReadGivesTheLastWrite : Prop :=
  (∀ a : Word, State.construct.readByte a = 0x00) ∧
  ∀ (s : State) (a b : Word) (v : Byte),
    (s.writeByte a v).readByte b = (if b = a then v else s.readByte b) ∧
    (s.writeByte a v).pc = s.pc ∧ Frame [] [] [a] s (s.writeByte a v)

/-- The canonical form of memory is one list for one content (the model's own representation: log entry 10). -/
def Obligations.CanonicalMemoryIsUnique : Prop :=
  ∀ s t : State, s.mem.wf = true → t.mem.wf = true →
    (∀ a : Word, s.readByte a = t.readByte a) → s.mem = t.mem

/-- Push writes at 0x0100 + SP and then decrements SP; pull increments SP and then reads; a word is pushed high byte first and pulled low byte first; the addresses never leave the stack page (R43, R44, R45). -/
def Obligations.StackDiscipline : Prop :=
  ∀ s : State,
    (∀ v : Byte, (push8 v s).readByte (BitVec.ofNat 16 (0x0100 + s.sp.toNat)) = v ∧
      (push8 v s).sp = BitVec.ofNat 8 (s.sp.toNat + 255) ∧ (push8 v s).pc = s.pc ∧
      Frame [.SP] [] [BitVec.ofNat 16 (0x0100 + s.sp.toNat)] s (push8 v s)) ∧
    ((pull8 s).1 = s.readByte (BitVec.ofNat 16 (0x0100 + (s.sp.toNat + 1) % 256)) ∧
      (pull8 s).2.sp = BitVec.ofNat 8 (s.sp.toNat + 1) ∧ (pull8 s).2.pc = s.pc ∧ Frame [.SP] [] [] s (pull8 s).2) ∧
    (∀ w : Word, push16 w s = push8 (lo8 w) (push8 (hi8 w) s)) ∧
    (pull16 s = (hilo (pull8 (pull8 s).2).1 (pull8 s).1, (pull8 (pull8 s).2).2)) ∧
    (∀ w : Word, (pull16 (push16 w s)).1 = w ∧ (pull16 (push16 w s)).2.sp = s.sp)

/-- After construct every register and every memory byte is zero (R19, R260). -/
def Obligations.ConstructIsAllZero : Prop :=
  State.construct.a = 0x00 ∧ State.construct.x = 0x00 ∧ State.construct.y = 0x00 ∧ State.construct.sp = 0x00 ∧
  State.construct.pc = 0x0000 ∧ State.construct.p = 0x00 ∧ ∀ a : Word, State.construct.readByte a = 0x00

/-- Boot sets SP to 0xFD and PC to the little-endian word at 0xFFFC, and keeps everything else (R20, R261); a second boot does the same again (R262). -/
def Obligations.BootSetsOnlyStackPointerAndProgramCounter : Prop :=
  ∀ s : State,
    (boot s).sp = 0xFD ∧
    (boot s).pc.toNat = (s.readByte 0xFFFC).toNat + 256 * (s.readByte 0xFFFD).toNat ∧
    Frame [.SP] [] [] s (boot s) ∧ (boot s).mem = s.mem ∧ (boot s).p = s.p ∧
    boot (boot s) = boot s

/-- State.reset is the state after construct followed at once by boot, and it meets the invariant, as does the state after construct. That this moment is the reset state is the model's reading (log entry 2). -/
def Obligations.ResetIsConstructThenBoot : Prop :=
  State.reset = boot State.construct ∧ State.construct.Inv ∧ State.reset.Inv

/-- From every state that meets the invariant, a step that answers a next state answers one that meets it: memory stays in canonical form and bits 4 and 5 of P stay 0 (R14, R22; the canonical form is the model's, log entry 10). So do boot and a host write. -/
def Obligations.StepKeepsTheInvariant : Prop :=
  (∀ s t : State, s.Inv → step s = .next t → t.Inv) ∧
  (∀ s : State, s.Inv → (boot s).Inv) ∧
  (∀ (s : State) (a : Word) (v : Byte), s.Inv → (hostWrite a v s).Inv)

/-- Bits 4 and 5 of P: 0 after construct, changed by no step; PLP and RTI load pulled & 0xCF; PHP and BRK push P | 0x30 (R14). -/
def Obligations.ConstantStatusBits : Prop :=
  (State.construct.p &&& 0x30 = 0) ∧
  (∀ s t : State, s.p &&& 0x30 = 0 → step s = .next t → t.p &&& 0x30 = 0) ∧
  (∀ s : State, ∃ t, exec .plp s = .next t ∧ t.p = s.readByte (stackAddr (s.sp + 1)) &&& 0xCF) ∧
  (∀ s : State, ∃ t, exec .rti s = .next t ∧ t.p = s.readByte (stackAddr (s.sp + 1)) &&& 0xCF) ∧
  (∀ s : State, ∃ t, exec .php s = .next t ∧ t.readByte (stackAddr s.sp) = s.p ||| 0x30) ∧
  (∀ s : State, ∃ t, exec .brk s = .next t ∧ t.readByte (stackAddr (s.sp - 2)) = s.p ||| 0x30)

/-- The three modes without an effective address: implied resolves to nothing, accumulator to A, immediate to the byte after the opcode; which operations have them (R71, R72, R73). -/
def Obligations.ImpliedAccumulatorImmediateModes : Prop :=
  ∀ (s : State) (b1 : Byte),
    (resolve .imp s = .nothing ∧ Mode.imp.length = 1) ∧
    (resolve .acc s = .accumulator ∧ (resolve .acc s).operand s = some s.a ∧ Mode.acc.length = 1) ∧
    (resolve (.imm b1) s = .immediate b1 ∧ (resolve (.imm b1) s).operand s = some b1 ∧ (Mode.imm b1).length = 2) ∧
    (∀ i : Instr, i.mode = .imp → i.mnemonic ∈ ([.INX, .INY, .DEX, .DEY, .TAX, .TXA, .TAY, .TYA, .TSX, .TXS, .PHA, .PLA, .PHP, .PLP, .RTS, .BRK, .RTI, .CLC, .SEC, .CLI, .SEI, .CLV, .CLD, .SED, .NOP] :
        List Mnemonic)) ∧
    (∀ i : Instr, i.mode = .acc →
      (i.mnemonic, i.opcode) ∈ ([(.ASL, 0x0A), (.LSR, 0x4A), (.ROL, 0x2A), (.ROR, 0x6A)] : List (Mnemonic × Byte)) ∧
      ∃ t, exec i s = .next t ∧ Frame [.A] [.C, .Z, .N] [] s t) ∧
    (∀ i : Instr, i.mode = .imm b1 → i.mnemonic ∉ ([.STA, .STX, .STY, .ASL, .LSR, .ROL, .ROR, .INC, .DEC] :
        List Mnemonic))

/-- Zero-page addresses and their indexed sums wrap inside page 0 (R74, R75, R76). -/
def Obligations.ZeroPageModesStayInPageZero : Prop :=
  ∀ (s : State) (b1 : Byte),
    resolve (.mem (.zp b1)) s = .address (BitVec.ofNat 16 b1.toNat) ∧
    resolve (.mem (.zpx b1)) s = .address (BitVec.ofNat 16 ((b1.toNat + s.x.toNat) % 256)) ∧
    resolve (.mem (.zpy b1)) s = .address (BitVec.ofNat 16 ((b1.toNat + s.y.toNat) % 256)) ∧
    (Mode.mem (.zp b1)).length = 2 ∧ (Mode.mem (.zpx b1)).length = 2 ∧ (Mode.mem (.zpy b1)).length = 2 ∧
    (∀ i : Instr, i.mode = .mem (.zpy b1) →
      (i.mnemonic, i.opcode) ∈ ([(.LDX, 0xB6), (.STX, 0x96)] : List (Mnemonic × Byte)))

/-- Absolute addresses are the operand word, and indexed sums wrap modulo 65536 with no page effect (R78, R79, R80). -/
def Obligations.AbsoluteModesWrapAtTheTop : Prop :=
  ∀ (s : State) (b1 b2 : Byte),
    resolve (.mem (.abs (hilo b2 b1))) s = .address (BitVec.ofNat 16 (b2.toNat * 256 + b1.toNat)) ∧
    resolve (.mem (.absx (hilo b2 b1))) s =
      .address (BitVec.ofNat 16 ((b2.toNat * 256 + b1.toNat + s.x.toNat) % 65536)) ∧
    resolve (.mem (.absy (hilo b2 b1))) s =
      .address (BitVec.ofNat 16 ((b2.toNat * 256 + b1.toNat + s.y.toNat) % 65536)) ∧
    (Mode.mem (.abs (hilo b2 b1))).length = 3 ∧ (Mode.mem (.absx (hilo b2 b1))).length = 3 ∧
    (Mode.mem (.absy (hilo b2 b1))).length = 3 ∧
    (∀ i : Instr, i.mode = .mem (.abs (hilo b2 b1)) → i.mnemonic ∈ ([.JMP, .JSR] : List Mnemonic) →
      ∃ t, exec i s = .next t ∧ t.pc = hilo b2 b1)

/-- The indirect jump reads the high byte of its target from the pointer's own page (R81). -/
def Obligations.IndirectJumpStaysInThePointersPage : Prop :=
  ∀ (s : State) (ptr : Word),
    (∃ ea : Word, resolve (.ind ptr) s = .address ea ∧
      ea.toNat = (s.readByte ptr).toNat +
        256 * (s.readByte (BitVec.ofNat 16 (ptr.toNat / 256 * 256 + (ptr.toNat + 1) % 256))).toNat ∧
      (ptr.toNat % 256 ≠ 255 → ea = s.readWord ptr) ∧ ∃ t, exec (.jmpInd ptr) s = .next t ∧ t.pc = ea) ∧
    (Mode.ind ptr).length = 3 ∧
    (∀ i : Instr, i.mode = .ind ptr → i.mnemonic = .JMP ∧ i.opcode = 0x6C)

/-- The two indexed-indirect modes read both pointer bytes from page 0 (R82, R83). -/
def Obligations.ZeroPagePointersStayInPageZero : Prop :=
  ∀ (s : State) (b1 : Byte),
    (∃ ea : Word, resolve (.mem (.indx b1)) s = .address ea ∧
      ea.toNat = (s.readByte (BitVec.ofNat 16 ((b1.toNat + s.x.toNat) % 256))).toNat +
        256 * (s.readByte (BitVec.ofNat 16 ((b1.toNat + s.x.toNat + 1) % 256))).toNat) ∧
    (∃ ea : Word, resolve (.mem (.indy b1)) s = .address ea ∧
      ea.toNat = ((s.readByte (BitVec.ofNat 16 b1.toNat)).toNat +
        256 * (s.readByte (BitVec.ofNat 16 ((b1.toNat + 1) % 256))).toNat + s.y.toNat) % 65536) ∧
    (Mode.mem (.indx b1)).length = 2 ∧ (Mode.mem (.indy b1)).length = 2

/-- A branch target is the address of the next instruction plus the signed operand byte, modulo 65536 (R77). -/
def Obligations.RelativeTargetIsSigned : Prop :=
  ∀ (s : State) (b1 : Byte),
    resolve (.rel b1) s = .address (BitVec.ofInt 16 ((s.pc.toNat : Int) + 2 + b1.toInt)) ∧
    (Mode.rel b1).length = 2 ∧
    (∀ i : Instr, i.mode = .rel b1 → i.mnemonic ∈ ([.BCC, .BCS, .BEQ, .BNE, .BMI, .BPL, .BVC, .BVS] : List Mnemonic))

/-- The eight flags are the bits 0 to 7 of P in the order C, Z, I, D, B, U, V, N, each independent of the others (R13); SetZN writes Z and N from the result byte and nothing else (R91). -/
def Obligations.FlagPositionsAndZeroNegative : Prop :=
  (∀ p : Byte, getFlag p .C = p.getLsbD 0 ∧ getFlag p .Z = p.getLsbD 1 ∧ getFlag p .I = p.getLsbD 2 ∧
    getFlag p .D = p.getLsbD 3 ∧ getFlag p .B = p.getLsbD 4 ∧ getFlag p .U = p.getLsbD 5 ∧
    getFlag p .V = p.getLsbD 6 ∧ getFlag p .N = p.getLsbD 7) ∧
  (∀ (p : Byte) (f g : Flag) (v : Bool), getFlag (setFlag p f v) g = if g = f then v else getFlag p g) ∧
  (∀ p v : Byte, getFlag (setZN p v) .Z = decide (v = 0) ∧ getFlag (setZN p v) .N = v.getLsbD 7 ∧
    ∀ f : Flag, f ≠ .Z → f ≠ .N → getFlag (setZN p v) f = getFlag p f)

/-- Add8: the sum modulo 256, carry iff the unbounded sum exceeds 255, overflow iff the true signed sum leaves -128 to 127 (R92, R95, R96). -/
def Obligations.AdderSumCarryOverflow : Prop :=
  ∀ (a b : Byte) (cin : Bool),
    (add8 a b cin).result.toNat = (a.toNat + b.toNat + cin.toNat) % 256 ∧
    ((add8 a b cin).carry = true ↔ a.toNat + b.toNat + cin.toNat > 255) ∧
    (add8 a b cin).overflow = ((a ^^^ (add8 a b cin).result) &&& (b ^^^ (add8 a b cin).result)).getLsbD 7 ∧
    ((add8 a b cin).overflow = true ↔ a.toInt + b.toInt + (cin.toNat : Int) < -128 ∨
      127 < a.toInt + b.toInt + (cin.toNat : Int))

/-- Sub8 is Add8 of the complement: the difference with borrow, carry iff no borrow, overflow iff the true signed difference leaves the range; with carry in 1 the carry out is the compare rule (R97). -/
def Obligations.SubtractorBorrowOverflow : Prop :=
  ∀ (a m : Byte) (cin : Bool),
    sub8 a m cin = add8 a (m ^^^ 0xFF) cin ∧
    ((sub8 a m cin).result.toNat : Int) = ((a.toNat : Int) - m.toNat - (1 - cin.toNat)) % 256 ∧
    ((sub8 a m cin).carry = true ↔ 0 ≤ (a.toNat : Int) - m.toNat - (1 - cin.toNat)) ∧
    ((sub8 a m cin).overflow = true ↔ a.toInt - m.toInt - (1 - (cin.toNat : Int)) < -128 ∨
      127 < a.toInt - m.toInt - (1 - (cin.toNat : Int))) ∧
    ((sub8 a m true).carry = true ↔ m.toNat ≤ a.toNat)

/-- Cmp8: C iff r >= m, Z iff r = m, N bit 7 of the difference, V and the rest kept; it agrees with Sub8 with carry in 1 (R94, R98). -/
def Obligations.CompareIsSubtractionThrownAway : Prop :=
  ∀ p r m : Byte,
    getFlag (cmp8 p r m) .C = decide (m.toNat ≤ r.toNat) ∧
    getFlag (cmp8 p r m) .Z = decide (r = m) ∧
    getFlag (cmp8 p r m) .N = (r - m).getLsbD 7 ∧
    (∀ f : Flag, f ∉ ([.C, .Z, .N] : List Flag) → getFlag (cmp8 p r m) f = getFlag p f) ∧
    cmp8 p r m = setZN (setFlag p .C (sub8 r m true).carry) (sub8 r m true).result

/-- The four shift functions, with the bit shifted in and the bit shifted out, and the flags an instruction takes from them (R93, R99). -/
def Obligations.ShiftFunctions : Prop :=
  ∀ (v : Byte) (c : Bool),
    ((asl8 v c).result.toNat = 2 * v.toNat % 256 ∧ (asl8 v c).carry = v.getLsbD 7) ∧
    ((lsr8 v c).result.toNat = v.toNat / 2 ∧ (lsr8 v c).carry = v.getLsbD 0) ∧
    ((rol8 v c).result.toNat = 2 * v.toNat % 256 + c.toNat ∧ (rol8 v c).carry = v.getLsbD 7) ∧
    ((ror8 v c).result.toNat = v.toNat / 2 + 128 * c.toNat ∧ (ror8 v c).carry = v.getLsbD 0) ∧
    (ror8 (rol8 v c).result (rol8 v c).carry = { result := v, carry := c }) ∧
    (∀ f ∈ [asl8, lsr8, rol8, ror8], ∀ (d : Dst) (s : State), ∃ t, shift f d s = .next t ∧
      t.flag .C = (f (d.operand s) (s.flag .C)).carry ∧
      t.flag .Z = decide ((f (d.operand s) (s.flag .C)).result = 0) ∧
      t.flag .N = (f (d.operand s) (s.flag .C)).result.getLsbD 7)

/-- ADC in each of its eight modes completes with the sum, the four flags, the advance, and nothing else changed, whatever P.D is (R110). -/
def Obligations.AdcAddsWithCarry : Prop :=
  ∀ (i : Instr) (s : State), i.mnemonic = .ADC →
    (i.mode.tag, i.opcode) ∈ opcodesOf .ADC ∧
    ∃ m t, (resolve i.mode s).operand s = some m ∧ exec i s = .next t ∧
      t.a.toNat = (s.a.toNat + m.toNat + (s.flag .C).toNat) % 256 ∧
      t.flag .C = decide (s.a.toNat + m.toNat + (s.flag .C).toNat > 255) ∧
      (t.flag .V = true ↔ s.a.toInt + m.toInt + ((s.flag .C).toNat : Int) < -128 ∨
        127 < s.a.toInt + m.toInt + ((s.flag .C).toNat : Int)) ∧
      t.flag .Z = decide (t.a = 0) ∧ t.flag .N = t.a.getLsbD 7 ∧
      t.pc = s.pc + BitVec.ofNat 16 i.length ∧ Frame [.A] [.C, .V, .Z, .N] [] s t

/-- SBC in each of its eight modes completes with the difference, the four flags, the advance, and nothing else changed, whatever P.D is (R111). -/
def Obligations.SbcSubtractsWithBorrow : Prop :=
  ∀ (i : Instr) (s : State), i.mnemonic = .SBC →
    (i.mode.tag, i.opcode) ∈ opcodesOf .SBC ∧
    ∃ m t, (resolve i.mode s).operand s = some m ∧ exec i s = .next t ∧
      (t.a.toNat : Int) = ((s.a.toNat : Int) - m.toNat - (1 - (s.flag .C).toNat)) % 256 ∧
      t.flag .C = decide (0 ≤ (s.a.toNat : Int) - m.toNat - (1 - (s.flag .C).toNat)) ∧
      (t.flag .V = true ↔ s.a.toInt - m.toInt - (1 - ((s.flag .C).toNat : Int)) < -128 ∨
        127 < s.a.toInt - m.toInt - (1 - ((s.flag .C).toNat : Int))) ∧
      t.flag .Z = decide (t.a = 0) ∧ t.flag .N = t.a.getLsbD 7 ∧
      t.pc = s.pc + BitVec.ofNat 16 i.length ∧ Frame [.A] [.C, .V, .Z, .N] [] s t

/-- AND, ORA and EOR in each of their eight modes (R120, R121, R122). -/
def Obligations.LogicalOperationsOnA : Prop :=
  ∀ (i : Instr) (s : State), i.mnemonic ∈ ([.AND, .ORA, .EOR] : List Mnemonic) →
    (i.mode.tag, i.opcode) ∈ opcodesOf i.mnemonic ∧
    ∃ m t, (resolve i.mode s).operand s = some m ∧ exec i s = .next t ∧
      (i.mnemonic = .AND → t.a = s.a &&& m) ∧ (i.mnemonic = .ORA → t.a = s.a ||| m) ∧
      (i.mnemonic = .EOR → t.a = s.a ^^^ m) ∧
      t.flag .Z = decide (t.a = 0) ∧ t.flag .N = t.a.getLsbD 7 ∧
      t.pc = s.pc + BitVec.ofNat 16 i.length ∧ Frame [.A] [.Z, .N] [] s t

/-- BIT in both modes: three flags and no register (R123). -/
def Obligations.BitTestsMemoryAgainstA : Prop :=
  ∀ (i : Instr) (s : State), i.mnemonic = .BIT →
    (i.mode.tag, i.opcode) ∈ opcodesOf .BIT ∧
    ∃ m t, (resolve i.mode s).operand s = some m ∧ exec i s = .next t ∧
      t.flag .Z = decide (s.a &&& m = 0) ∧ t.flag .N = m.getLsbD 7 ∧ t.flag .V = m.getLsbD 6 ∧
      t.pc = s.pc + BitVec.ofNat 16 i.length ∧ Frame [] [.Z, .N, .V] [] s t

/-- ASL and LSR in accumulator and memory modes: one bit, 0 shifted in, result where the operand stood (R130, R131, R134). -/
def Obligations.AslAndLsrShiftByOne : Prop :=
  ∀ (i : Instr) (s : State), i.mnemonic ∈ ([.ASL, .LSR] : List Mnemonic) →
    (i.mode.tag, i.opcode) ∈ opcodesOf i.mnemonic ∧
    ∃ v r t, (resolve i.mode s).operand s = some v ∧ exec i s = .next t ∧
      (i.mnemonic = .ASL → r.toNat = 2 * v.toNat % 256 ∧ t.flag .C = v.getLsbD 7) ∧
      (i.mnemonic = .LSR → r.toNat = v.toNat / 2 ∧ t.flag .C = v.getLsbD 0) ∧
      WrittenBack i r [.C, .Z, .N] s t ∧ t.flag .Z = decide (r = 0) ∧ t.flag .N = r.getLsbD 7 ∧
      t.pc = s.pc + BitVec.ofNat 16 i.length

/-- ROL and ROR in accumulator and memory modes: one bit through the carry, result where the operand stood (R132, R133, R134); nine ROL restore byte and carry (R132). -/
def Obligations.RolAndRorRotateThroughCarry : Prop :=
  ∀ (i : Instr) (s : State), i.mnemonic ∈ ([.ROL, .ROR] : List Mnemonic) →
    (i.mode.tag, i.opcode) ∈ opcodesOf i.mnemonic ∧
    ∃ v r t, (resolve i.mode s).operand s = some v ∧ exec i s = .next t ∧
      (i.mnemonic = .ROL → r.toNat = 2 * v.toNat % 256 + (s.flag .C).toNat ∧ t.flag .C = v.getLsbD 7) ∧
      (i.mnemonic = .ROR → r.toNat = v.toNat / 2 + 128 * (s.flag .C).toNat ∧ t.flag .C = v.getLsbD 0) ∧
      WrittenBack i r [.C, .Z, .N] s t ∧ t.flag .Z = decide (r = 0) ∧ t.flag .N = r.getLsbD 7 ∧
      t.pc = s.pc + BitVec.ofNat 16 i.length ∧
      (i.mnemonic = .ROL → ∃ u, execTimes 9 i s = .next u ∧ (resolve i.mode u).operand u = some v ∧
        u.flag .C = s.flag .C)

/-- CMP, CPX and CPY in each of their modes: C, Z and N of the unsigned comparison, no register (R140, R141, R142). -/
def Obligations.ComparesWriteOnlyFlags : Prop :=
  ∀ (i : Instr) (s : State) (r : Reg),
    (i.mnemonic, r) ∈ ([(.CMP, .A), (.CPX, .X), (.CPY, .Y)] : List (Mnemonic × Reg)) →
    (i.mode.tag, i.opcode) ∈ opcodesOf i.mnemonic ∧
    ∃ m t, (resolve i.mode s).operand s = some m ∧ exec i s = .next t ∧
      t.flag .C = decide (m.toNat ≤ (s.reg r).toNat) ∧ t.flag .Z = decide (s.reg r = m) ∧
      t.flag .N = (BitVec.ofNat 8 ((s.reg r).toNat + 256 - m.toNat)).getLsbD 7 ∧
      t.pc = s.pc + BitVec.ofNat 16 i.length ∧ Frame [] [.C, .Z, .N] [] s t

/-- INC and DEC in each of their modes: the byte at ea plus or minus one, Z and N, no carry (R143, R144). -/
def Obligations.IncAndDecStepMemory : Prop :=
  ∀ (i : Instr) (s : State), i.mnemonic ∈ ([.INC, .DEC] : List Mnemonic) →
    (i.mode.tag, i.opcode) ∈ opcodesOf i.mnemonic ∧
    ∃ ea r t, resolve i.mode s = .address ea ∧ exec i s = .next t ∧
      (i.mnemonic = .INC → r.toNat = ((s.readByte ea).toNat + 1) % 256) ∧
      (i.mnemonic = .DEC → r.toNat = ((s.readByte ea).toNat + 255) % 256) ∧
      t.readByte ea = r ∧ t.flag .Z = decide (r = 0) ∧ t.flag .N = r.getLsbD 7 ∧
      t.pc = s.pc + BitVec.ofNat 16 i.length ∧ Frame [] [.Z, .N] [ea] s t

/-- INX, INY, DEX and DEY (R145 to R148). -/
def Obligations.IndexRegistersStepByOne : Prop :=
  ∀ (i : Instr) (s : State) (r : Reg) (step : Nat),
    (i.mnemonic, r, step) ∈ ([(.INX, .X, 1), (.INY, .Y, 1), (.DEX, .X, 255), (.DEY, .Y, 255)] :
      List (Mnemonic × Reg × Nat)) →
    (i.mode.tag, i.opcode) ∈ opcodesOf i.mnemonic ∧
    ∃ t, exec i s = .next t ∧ (t.reg r).toNat = ((s.reg r).toNat + step) % 256 ∧
      t.flag .Z = decide (t.reg r = 0) ∧ t.flag .N = (t.reg r).getLsbD 7 ∧
      t.pc = s.pc + 1 ∧ Frame [r] [.Z, .N] [] s t

/-- LDA, LDX and LDY in each of their modes (R155, R156, R157). -/
def Obligations.LoadsTakeTheOperand : Prop :=
  ∀ (i : Instr) (s : State) (r : Reg),
    (i.mnemonic, r) ∈ ([(.LDA, .A), (.LDX, .X), (.LDY, .Y)] : List (Mnemonic × Reg)) →
    (i.mode.tag, i.opcode) ∈ opcodesOf i.mnemonic ∧
    ∃ m t, (resolve i.mode s).operand s = some m ∧ exec i s = .next t ∧ t.reg r = m ∧
      t.flag .Z = decide (m = 0) ∧ t.flag .N = m.getLsbD 7 ∧
      t.pc = s.pc + BitVec.ofNat 16 i.length ∧ Frame [r] [.Z, .N] [] s t

/-- STA, STX and STY in each of their modes: the byte at ea and nothing else, no flag (R158, R159, R160). -/
def Obligations.StoresWriteOnlyTheirByte : Prop :=
  ∀ (i : Instr) (s : State) (r : Reg),
    (i.mnemonic, r) ∈ ([(.STA, .A), (.STX, .X), (.STY, .Y)] : List (Mnemonic × Reg)) →
    (i.mode.tag, i.opcode) ∈ opcodesOf i.mnemonic ∧
    ∃ ea t, resolve i.mode s = .address ea ∧ exec i s = .next t ∧ t.readByte ea = s.reg r ∧
      t.pc = s.pc + BitVec.ofNat 16 i.length ∧ Frame [] [] [ea] s t

/-- TAX, TXA, TAY, TYA and TSX copy and write Z and N; TXS copies and writes no flag (R170 to R175). -/
def Obligations.TransfersCopyRegisters : Prop :=
  (∀ (i : Instr) (s : State) (src dst : Reg),
    (i.mnemonic, src, dst) ∈ ([(.TAX, .A, .X), (.TXA, .X, .A), (.TAY, .A, .Y), (.TYA, .Y, .A), (.TSX, .SP, .X)] :
      List (Mnemonic × Reg × Reg)) →
    (i.mnemonic, i.opcode) ∈ ([(.TAX, 0xAA), (.TXA, 0x8A), (.TAY, 0xA8), (.TYA, 0x98), (.TSX, 0xBA)] :
      List (Mnemonic × Byte)) ∧
    ∃ t, exec i s = .next t ∧ t.reg dst = s.reg src ∧ t.flag .Z = decide (s.reg src = 0) ∧
      t.flag .N = (s.reg src).getLsbD 7 ∧ t.pc = s.pc + 1 ∧ Frame [dst] [.Z, .N] [] s t) ∧
  (Instr.txs.opcode = 0x9A ∧ ∀ s : State, ∃ t, exec .txs s = .next t ∧ t.sp = s.x ∧ t.pc = s.pc + 1 ∧ Frame [.SP] [] [] s t)

/-- PHA and PHP: one byte at the stack slot, SP down by one, no flag (R176, R178). -/
def Obligations.PushesStoreOneStackByte : Prop :=
  ∀ s : State,
    (Instr.pha.opcode = 0x48 ∧ ∃ t, exec .pha s = .next t ∧ t.readByte (stackAddr s.sp) = s.a ∧ t.sp = s.sp - 1 ∧
      t.pc = s.pc + 1 ∧ Frame [.SP] [] [stackAddr s.sp] s t) ∧
    (Instr.php.opcode = 0x08 ∧ ∃ t, exec .php s = .next t ∧ t.readByte (stackAddr s.sp) = s.p ||| 0x30 ∧
      t.sp = s.sp - 1 ∧ t.pc = s.pc + 1 ∧ Frame [.SP] [] [stackAddr s.sp] s t)

/-- PLA and PLP: the byte at the next slot, SP up by one, memory unchanged (R177, R179). -/
def Obligations.PullsLoadOneStackByte : Prop :=
  ∀ s : State,
    (Instr.pla.opcode = 0x68 ∧ ∃ t, exec .pla s = .next t ∧ t.a = s.readByte (stackAddr (s.sp + 1)) ∧ t.sp = s.sp + 1 ∧
      t.flag .Z = decide (t.a = 0) ∧ t.flag .N = t.a.getLsbD 7 ∧ t.pc = s.pc + 1 ∧
      Frame [.A, .SP] [.Z, .N] [] s t) ∧
    (Instr.plp.opcode = 0x28 ∧ ∃ t, exec .plp s = .next t ∧ t.p = s.readByte (stackAddr (s.sp + 1)) &&& 0xCF ∧
      t.sp = s.sp + 1 ∧ t.pc = s.pc + 1 ∧ Frame [.SP] [.C, .Z, .I, .D, .B, .U, .V, .N] [] s t)

/-- JMP absolute and indirect: the program counter becomes ea and nothing else changes (R190). -/
def Obligations.JmpGoesToItsTarget : Prop :=
  ∀ (i : Instr) (s : State), i.mnemonic = .JMP →
    (i.mode.tag, i.opcode) ∈ opcodesOf .JMP ∧ i.length = 3 ∧
    ∃ ea t, resolve i.mode s = .address ea ∧ exec i s = .next t ∧ t.pc = ea ∧ Frame [] [] [] s t

/-- JSR: pushes pc + 2, high byte first, and jumps (R191). -/
def Obligations.JsrPushesItsLastByteAddress : Prop :=
  ∀ (w : Word) (s : State), (Instr.jsr w).opcode = 0x20 ∧
    ∃ t, exec (.jsr w) s = .next t ∧ t.pc = w ∧ t.sp = s.sp - 2 ∧
      t.readByte (stackAddr s.sp) = hi8 (s.pc + 2) ∧ t.readByte (stackAddr (s.sp - 1)) = lo8 (s.pc + 2) ∧
      Frame [.SP] [] [stackAddr s.sp, stackAddr (s.sp - 1)] s t

/-- RTS: pulls the address, low byte first, and continues one after it (R192). -/
def Obligations.RtsReturnsPastThePulledAddress : Prop :=
  Instr.rts.opcode = 0x60 ∧ ∀ s : State, ∃ t, exec .rts s = .next t ∧
    t.pc = hilo (s.readByte (stackAddr (s.sp + 2))) (s.readByte (stackAddr (s.sp + 1))) + 1 ∧
    t.sp = s.sp + 2 ∧ Frame [.SP] [] [] s t

/-- The eight branches: taken to the relative target iff their flag has its value, else the advance of 2; nothing else changes (R193 to R201). -/
def Obligations.BranchesTestOneFlag : Prop :=
  ∀ (i : Instr) (s : State) (f : Flag) (v : Bool) (op : Byte),
    (i.mnemonic, f, v, op) ∈ ([(.BCC, .C, false, 0x90), (.BCS, .C, true, 0xB0), (.BEQ, .Z, true, 0xF0),
      (.BNE, .Z, false, 0xD0), (.BMI, .N, true, 0x30), (.BPL, .N, false, 0x10), (.BVC, .V, false, 0x50),
      (.BVS, .V, true, 0x70)] : List (Mnemonic × Flag × Bool × Byte)) →
    i.opcode = op ∧ i.mode.tag = .rel ∧ i.length = 2 ∧
    ∃ b1 t, i.mode = .rel b1 ∧ exec i s = .next t ∧
      (s.flag f = v → t.pc = BitVec.ofInt 16 ((s.pc.toNat : Int) + 2 + b1.toInt)) ∧
      (s.flag f ≠ v → t.pc = s.pc + 2) ∧ Frame [] [] [] s t

/-- BRK, whose own effect is the software trap: saves pc + 2 and P with bits 4 and 5 set, sets I after the push, and goes to the word at 0xFFFE, read after the pushes (R202, R237). -/
def Obligations.BrkEntersTheTrap : Prop :=
  Instr.brk.opcode = 0x00 ∧ ∀ s : State, ∃ t, exec .brk s = .next t ∧
    t.readByte (stackAddr s.sp) = hi8 (s.pc + 2) ∧ t.readByte (stackAddr (s.sp - 1)) = lo8 (s.pc + 2) ∧
    t.readByte (stackAddr (s.sp - 2)) = s.p ||| 0x30 ∧ t.sp = s.sp - 3 ∧ t.flag .I = true ∧
    t.pc = hilo (t.readByte 0xFFFF) (t.readByte 0xFFFE) ∧ t.pc = hilo (s.readByte 0xFFFF) (s.readByte 0xFFFE) ∧
    Frame [.SP] [.I] [stackAddr s.sp, stackAddr (s.sp - 1), stackAddr (s.sp - 2)] s t

/-- RTI: pulls the status byte without bits 4 and 5, then the address, low byte first, with no plus one (R203, R239). -/
def Obligations.RtiReturnsFromTheTrap : Prop :=
  Instr.rti.opcode = 0x40 ∧ ∀ s : State, ∃ t, exec .rti s = .next t ∧
    t.p = s.readByte (stackAddr (s.sp + 1)) &&& 0xCF ∧
    t.pc = hilo (s.readByte (stackAddr (s.sp + 3))) (s.readByte (stackAddr (s.sp + 2))) ∧
    t.sp = s.sp + 3 ∧ Frame [.SP] [.C, .Z, .I, .D, .B, .U, .V, .N] [] s t

/-- CLC, SEC, CLI, SEI, CLV, CLD, SED each write one bit of P and nothing else; applying one twice leaves the flag as once (R215 to R221). -/
def Obligations.FlagInstructionsWriteOneBit : Prop :=
  ∀ (i : Instr) (s : State) (f : Flag) (v : Bool) (op : Byte),
    (i.mnemonic, f, v, op) ∈ ([(.CLC, .C, false, 0x18), (.SEC, .C, true, 0x38), (.CLI, .I, false, 0x58),
      (.SEI, .I, true, 0x78), (.CLV, .V, false, 0xB8), (.CLD, .D, false, 0xD8), (.SED, .D, true, 0xF8)] :
      List (Mnemonic × Flag × Bool × Byte)) →
    i.opcode = op ∧ ∃ t, exec i s = .next t ∧ t.flag f = v ∧ t.pc = s.pc + 1 ∧ Frame [] [f] [] s t ∧
      ∃ u, exec i t = .next u ∧ u.p = t.p

/-- NOP advances the program counter by 1 and changes nothing else (R222). -/
def Obligations.NopOnlyAdvances : Prop :=
  Instr.nop.opcode = 0xEA ∧ ∀ s : State, exec .nop s = .next { s with pc := s.pc + 1 }

/-- Whole-machine frame: in a state whose bits 4 and 5 of P are 0, every instruction completes and changes only the registers of R10's and R11's lists, the flags of R104's row, and the bytes at the addresses it stores to. The premise rules out states no run reaches (StepKeepsTheInvariant): PLP and RTI clear those two bits, which no other instruction writes. -/
def Obligations.FrameOfEveryInstruction : Prop :=
  ∀ (i : Instr) (s : State), s.p &&& 0x30 = 0 →
    ∃ t, exec i s = .next t ∧ Frame (registersWritten i) (flagsWritten i.mnemonic) (storedAddresses i s) s t

/-- The program counter ends at pc + length unless the instruction is JMP, JSR, RTS, BRK, RTI or a taken branch, each of which sets it itself (R62). -/
def Obligations.ProgramCounterCommit : Prop :=
  ∀ (i : Instr) (s : State), ∃ t, exec i s = .next t ∧
    (i.mnemonic ∉ ([.JMP, .JSR, .RTS, .BRK, .RTI] : List Mnemonic) →
      (∀ f v, takenWhen i.mnemonic = some (f, v) → s.flag f ≠ v) →
      t.pc = BitVec.ofNat 16 (s.pc.toNat + i.length)) ∧
    (∀ f v ea, takenWhen i.mnemonic = some (f, v) → s.flag f = v → resolve i.mode s = .address ea → t.pc = ea) ∧
    (∀ ea, i.mnemonic ∈ ([.JMP, .JSR] : List Mnemonic) → resolve i.mode s = .address ea → t.pc = ea) ∧
    (i.mnemonic = .RTS → t.pc = (pull16 s).1 + 1) ∧ (i.mnemonic = .RTI → t.pc = (pull16 (pull8 s).2).1) ∧
    (i.mnemonic = .BRK → t.pc = t.readWord 0xFFFE)

/-- Isolation: the value of P.I or of P.D before an instruction can be learned from nothing but that flag afterwards and the status byte that PHP and BRK push (R103, R235). -/
def Obligations.InterruptAndDecimalFlagsAreStorageOnly : Prop :=
  ∀ (i : Instr) (s : State) (f : Flag) (b : Bool), f = .I ∨ f = .D →
    ∃ t t', exec i s = .next t ∧ exec i (s.setFlag f b) = .next t' ∧ t'.pc = t.pc ∧
      Frame [] [f] (if i.mnemonic = .PHP then [stackAddr s.sp] else
        if i.mnemonic = .BRK then [stackAddr (s.sp - 2)] else []) t t'

/-- JSR then RTS continues after the JSR, and BRK then RTI continues at pc + 2 of the BRK with the old flags, whatever runs in between, as long as SP and the pushed bytes are as they were pushed (derived in R192 and R203). For the trap, bits 4 and 5 of P are 0 (StepKeepsTheInvariant). -/
def Obligations.CallsAndTrapsReturn : Prop :=
  (∀ (w : Word) (s : State), ∃ t, exec (.jsr w) s = .next t ∧
    ∀ t' : State, t'.sp = t.sp → (∀ k ∈ [s.sp, s.sp - 1], t'.readByte (stackAddr k) = t.readByte (stackAddr k)) →
      ∃ u, exec .rts t' = .next u ∧ u.pc = s.pc + 3 ∧ u.sp = s.sp) ∧
  (∀ s : State, s.p &&& 0x30 = 0 → ∃ t, exec .brk s = .next t ∧
    ∀ t' : State, t'.sp = t.sp →
      (∀ k ∈ [s.sp, s.sp - 1, s.sp - 2], t'.readByte (stackAddr k) = t.readByte (stackAddr k)) →
      ∃ u, exec .rti t' = .next u ∧ u.pc = s.pc + 2 ∧ u.p = s.p ∧ u.sp = s.sp)

/-- PHA then PLA restores A and SP; PHP then PLP restores P and SP (bits 4 and 5 of P zero: StepKeepsTheInvariant); any store followed by a load of the address it stored to gives the register back (the source's properties in R177, R179, R30). -/
def Obligations.PushPullAndStoreLoadRoundTrip : Prop :=
  (∀ s : State, ∃ t u, exec .pha s = .next t ∧ exec .pla t = .next u ∧ u.a = s.a ∧ u.sp = s.sp) ∧
  (∀ s : State, s.p &&& 0x30 = 0 → ∃ t u, exec .php s = .next t ∧ exec .plp t = .next u ∧ u.p = s.p ∧ u.sp = s.sp) ∧
  (∀ (i : Instr) (s : State) (r : Reg),
    (i.mnemonic, r) ∈ ([(.STA, .A), (.STX, .X), (.STY, .Y)] : List (Mnemonic × Reg)) →
    ∃ ea t u, resolve i.mode s = .address ea ∧ exec i s = .next t ∧ exec (.ldaAbs ea) t = .next u ∧ u.a = s.reg r)

/-- Loading a memory image puts byte i of the image at address i (R47). -/
def Obligations.ImageByteIsAtItsIndex : Prop :=
  ∀ (image : List Byte) (s : State) (a : Word), image.length ≤ 65536 →
    (loadImage image s).readByte a = image.getD a.toNat (s.readByte a) ∧ (loadImage image s).pc = s.pc ∧
    (loadImage image s).p = s.p ∧ ∀ r, (loadImage image s).reg r = s.reg r
end

