-- ==== Sys2Proof/WellFormed.lean ====
section
/-!
DEFINITION. What is a well-formed instruction. Every term of `Instr` has its operands at exactly the width the encoding
gives them, so the checks are made where ill-formed terms exist: on a string of code bytes that is offered as one
instruction. An `Instr` is well formed when its encoding passes them (log entry 16).
-/

namespace Sys2Proof

/-- There is an opcode byte (R50). -/
def hasOpcode : List Byte → Bool
  | [] => false
  | _ :: _ => true

/-- The opcode byte is one of the 151 assigned ones (R51, R57). -/
def opcodeAssigned : List Byte → Bool
  | [] => false
  | op :: _ => match decodeOpcode op with
    | .unassigned => false
    | _ => true

/-- How many operand bytes a format takes (R50). -/
def Format.operandCount : Format → Nat
  | .unassigned | .f1 _ => 0
  | .f2 _ => 1
  | .f3 _ => 2

/-- No operand byte of the format is missing (R50). -/
def operandsComplete : List Byte → Bool
  | [] => false
  | op :: rest => decide ((decodeOpcode op).operandCount ≤ rest.length)

/-- Nothing follows the format's operand bytes (R50). -/
def nothingLeftOver : List Byte → Bool
  | [] => true
  | op :: rest => decide (rest.length ≤ (decodeOpcode op).operandCount)

/-- The bytes are exactly one assigned instruction. -/
def codeWellFormed (bytes : List Byte) : Bool :=
  hasOpcode bytes && opcodeAssigned bytes && operandsComplete bytes && nothingLeftOver bytes

/-- The instruction's encoding is exactly one assigned instruction (R50, R51). -/
def Instr.wellFormed (i : Instr) : Bool := codeWellFormed (encode i)

end Sys2Proof
end

