-- ==== Sys2Proof/Laws/Decode.lean ====
section
/-!
SUPPORT. The laws of the byte-order and extension helpers in plain arithmetic, and the two ends of the encoding: what the
decoder makes of an opcode and its operand bytes.
-/

namespace Sys2Proof

theorem hilo_toNat (hi lo : Byte) : (hilo hi lo).toNat = hi.toNat * 256 + lo.toNat := by
  have := lo.isLt
  simp only [hilo, BitVec.toNat_append, Nat.shiftLeft_eq]
  rw [← Nat.shiftLeft_eq, ← Nat.shiftLeft_add_eq_or_of_lt (by omega), Nat.shiftLeft_eq]

theorem lo8_toNat (w : Word) : (lo8 w).toNat = w.toNat % 256 := by
  simp [lo8, BitVec.toNat_setWidth]

theorem hi8_toNat (w : Word) : (hi8 w).toNat = w.toNat / 256 := by
  have := w.isLt
  simp only [hi8, BitVec.toNat_setWidth, BitVec.toNat_ushiftRight, Nat.shiftRight_eq_div_pow]
  omega

theorem zext16_toNat (b : Byte) : (zext16 b).toNat = b.toNat := by
  have := b.isLt
  simp only [zext16, BitVec.toNat_setWidth]
  omega

theorem sext16_toInt (b : Byte) : (sext16 b).toInt = b.toInt := by
  exact BitVec.toInt_signExtend_of_le (by decide)

/-- Splitting a word and joining it again. -/
@[simp] theorem hilo_hi8_lo8 (w : Word) : hilo (hi8 w) (lo8 w) = w := by
  apply BitVec.eq_of_toNat_eq
  rw [hilo_toNat, hi8_toNat, lo8_toNat]
  omega

@[simp] theorem lo8_hilo (hi lo : Byte) : lo8 (hilo hi lo) = lo := by
  apply BitVec.eq_of_toNat_eq
  have := lo.isLt
  rw [lo8_toNat, hilo_toNat]
  omega

@[simp] theorem hi8_hilo (hi lo : Byte) : hi8 (hilo hi lo) = hi := by
  apply BitVec.eq_of_toNat_eq
  have := lo.isLt
  rw [hi8_toNat, hilo_toNat]
  omega

theorem zext16_inj {a b : Byte} (h : zext16 a = zext16 b) : a = b := by
  apply BitVec.eq_of_toNat_eq
  rw [← zext16_toNat a, ← zext16_toNat b, h]

/-! ### Decoding by format -/

theorem decode_cons (op : Byte) (rest : List Byte) : decode (op :: rest) = (decodeOpcode op).assemble op rest := rfl

theorem decode_f1 {op : Byte} {i : Instr} (h : decodeOpcode op = .f1 i) (rest : List Byte) :
    decode (op :: rest) = .ok (i, rest) := by
  simp [decode_cons, h, Format.assemble]

theorem decode_f2 {op : Byte} {mk : Byte → Instr} (h : decodeOpcode op = .f2 mk) (b1 : Byte) (rest : List Byte) :
    decode (op :: b1 :: rest) = .ok (mk b1, rest) := by
  simp [decode_cons, h, Format.assemble]

theorem decode_f3 {op : Byte} {mk : Word → Instr} (h : decodeOpcode op = .f3 mk) (b1 b2 : Byte) (rest : List Byte) :
    decode (op :: b1 :: b2 :: rest) = .ok (mk (hilo b2 b1), rest) := by
  simp [decode_cons, h, Format.assemble]

/-- With two operand bytes at hand the decoder fails on nothing but an unassigned opcode, whatever the opcode. -/
theorem assemble_ok_or_unassigned (op b1 b2 : Byte) (rest : List Byte) (f : Format) :
    (∃ i r, f.assemble op (b1 :: b2 :: rest) = .ok (i, r)) ∨ f = .unassigned := by
  cases f <;> simp [Format.assemble]

/-- How many bytes an addressing mode's operand takes is one less than the instruction's length (R50, R52). -/
theorem operandBytes_length (m : Mode) : m.operandBytes.length + 1 = m.length := by
  cases m with
  | mem m => cases m <;> rfl
  | _ => rfl

theorem encode_length (i : Instr) : (encode i).length = i.length :=
  operandBytes_length i.mode

end Sys2Proof
end

