-- ==== Sys2Proof/Laws/State.lean ====
section
/-!
SUPPORT. One lemma per field per update of the state, each true by `rfl`, so that no proof unfolds a record update; and
the same for the accessors built on them.
-/

namespace Sys2Proof.Machine

@[simp] theorem State.setReg_A_a (s : State) (v : Byte) : (s.setReg .A v).a = v := rfl
@[simp] theorem State.setReg_A_x (s : State) (v : Byte) : (s.setReg .A v).x = s.x := rfl
@[simp] theorem State.setReg_A_y (s : State) (v : Byte) : (s.setReg .A v).y = s.y := rfl
@[simp] theorem State.setReg_A_sp (s : State) (v : Byte) : (s.setReg .A v).sp = s.sp := rfl
@[simp] theorem State.setReg_A_pc (s : State) (v : Byte) : (s.setReg .A v).pc = s.pc := rfl
@[simp] theorem State.setReg_A_p (s : State) (v : Byte) : (s.setReg .A v).p = s.p := rfl
@[simp] theorem State.setReg_A_mem (s : State) (v : Byte) : (s.setReg .A v).mem = s.mem := rfl

@[simp] theorem State.setReg_X_a (s : State) (v : Byte) : (s.setReg .X v).a = s.a := rfl
@[simp] theorem State.setReg_X_x (s : State) (v : Byte) : (s.setReg .X v).x = v := rfl
@[simp] theorem State.setReg_X_y (s : State) (v : Byte) : (s.setReg .X v).y = s.y := rfl
@[simp] theorem State.setReg_X_sp (s : State) (v : Byte) : (s.setReg .X v).sp = s.sp := rfl
@[simp] theorem State.setReg_X_pc (s : State) (v : Byte) : (s.setReg .X v).pc = s.pc := rfl
@[simp] theorem State.setReg_X_p (s : State) (v : Byte) : (s.setReg .X v).p = s.p := rfl
@[simp] theorem State.setReg_X_mem (s : State) (v : Byte) : (s.setReg .X v).mem = s.mem := rfl

@[simp] theorem State.setReg_Y_a (s : State) (v : Byte) : (s.setReg .Y v).a = s.a := rfl
@[simp] theorem State.setReg_Y_x (s : State) (v : Byte) : (s.setReg .Y v).x = s.x := rfl
@[simp] theorem State.setReg_Y_y (s : State) (v : Byte) : (s.setReg .Y v).y = v := rfl
@[simp] theorem State.setReg_Y_sp (s : State) (v : Byte) : (s.setReg .Y v).sp = s.sp := rfl
@[simp] theorem State.setReg_Y_pc (s : State) (v : Byte) : (s.setReg .Y v).pc = s.pc := rfl
@[simp] theorem State.setReg_Y_p (s : State) (v : Byte) : (s.setReg .Y v).p = s.p := rfl
@[simp] theorem State.setReg_Y_mem (s : State) (v : Byte) : (s.setReg .Y v).mem = s.mem := rfl

@[simp] theorem State.setReg_SP_a (s : State) (v : Byte) : (s.setReg .SP v).a = s.a := rfl
@[simp] theorem State.setReg_SP_x (s : State) (v : Byte) : (s.setReg .SP v).x = s.x := rfl
@[simp] theorem State.setReg_SP_y (s : State) (v : Byte) : (s.setReg .SP v).y = s.y := rfl
@[simp] theorem State.setReg_SP_sp (s : State) (v : Byte) : (s.setReg .SP v).sp = v := rfl
@[simp] theorem State.setReg_SP_pc (s : State) (v : Byte) : (s.setReg .SP v).pc = s.pc := rfl
@[simp] theorem State.setReg_SP_p (s : State) (v : Byte) : (s.setReg .SP v).p = s.p := rfl
@[simp] theorem State.setReg_SP_mem (s : State) (v : Byte) : (s.setReg .SP v).mem = s.mem := rfl

@[simp] theorem State.setPc_a (s : State) (w : Word) : (s.setPc w).a = s.a := rfl
@[simp] theorem State.setPc_x (s : State) (w : Word) : (s.setPc w).x = s.x := rfl
@[simp] theorem State.setPc_y (s : State) (w : Word) : (s.setPc w).y = s.y := rfl
@[simp] theorem State.setPc_sp (s : State) (w : Word) : (s.setPc w).sp = s.sp := rfl
@[simp] theorem State.setPc_pc (s : State) (w : Word) : (s.setPc w).pc = w := rfl
@[simp] theorem State.setPc_p (s : State) (w : Word) : (s.setPc w).p = s.p := rfl
@[simp] theorem State.setPc_mem (s : State) (w : Word) : (s.setPc w).mem = s.mem := rfl

@[simp] theorem State.setP_a (s : State) (q : Byte) : (s.setP q).a = s.a := rfl
@[simp] theorem State.setP_x (s : State) (q : Byte) : (s.setP q).x = s.x := rfl
@[simp] theorem State.setP_y (s : State) (q : Byte) : (s.setP q).y = s.y := rfl
@[simp] theorem State.setP_sp (s : State) (q : Byte) : (s.setP q).sp = s.sp := rfl
@[simp] theorem State.setP_pc (s : State) (q : Byte) : (s.setP q).pc = s.pc := rfl
@[simp] theorem State.setP_p (s : State) (q : Byte) : (s.setP q).p = q := rfl
@[simp] theorem State.setP_mem (s : State) (q : Byte) : (s.setP q).mem = s.mem := rfl

@[simp] theorem State.setFlag_a (s : State) (f : Flag) (v : Bool) : (s.setFlag f v).a = s.a := rfl
@[simp] theorem State.setFlag_x (s : State) (f : Flag) (v : Bool) : (s.setFlag f v).x = s.x := rfl
@[simp] theorem State.setFlag_y (s : State) (f : Flag) (v : Bool) : (s.setFlag f v).y = s.y := rfl
@[simp] theorem State.setFlag_sp (s : State) (f : Flag) (v : Bool) : (s.setFlag f v).sp = s.sp := rfl
@[simp] theorem State.setFlag_pc (s : State) (f : Flag) (v : Bool) : (s.setFlag f v).pc = s.pc := rfl
@[simp] theorem State.setFlag_p (s : State) (f : Flag) (v : Bool) : (s.setFlag f v).p = Machine.setFlag s.p f v := rfl
@[simp] theorem State.setFlag_mem (s : State) (f : Flag) (v : Bool) : (s.setFlag f v).mem = s.mem := rfl

@[simp] theorem State.setZN_a (s : State) (v : Byte) : (s.setZN v).a = s.a := rfl
@[simp] theorem State.setZN_x (s : State) (v : Byte) : (s.setZN v).x = s.x := rfl
@[simp] theorem State.setZN_y (s : State) (v : Byte) : (s.setZN v).y = s.y := rfl
@[simp] theorem State.setZN_sp (s : State) (v : Byte) : (s.setZN v).sp = s.sp := rfl
@[simp] theorem State.setZN_pc (s : State) (v : Byte) : (s.setZN v).pc = s.pc := rfl
@[simp] theorem State.setZN_p (s : State) (v : Byte) : (s.setZN v).p = Machine.setZN s.p v := rfl
@[simp] theorem State.setZN_mem (s : State) (v : Byte) : (s.setZN v).mem = s.mem := rfl

@[simp] theorem State.writeByte_a (s : State) (addr : Word) (v : Byte) : (s.writeByte addr v).a = s.a := rfl
@[simp] theorem State.writeByte_x (s : State) (addr : Word) (v : Byte) : (s.writeByte addr v).x = s.x := rfl
@[simp] theorem State.writeByte_y (s : State) (addr : Word) (v : Byte) : (s.writeByte addr v).y = s.y := rfl
@[simp] theorem State.writeByte_sp (s : State) (addr : Word) (v : Byte) : (s.writeByte addr v).sp = s.sp := rfl
@[simp] theorem State.writeByte_pc (s : State) (addr : Word) (v : Byte) : (s.writeByte addr v).pc = s.pc := rfl
@[simp] theorem State.writeByte_p (s : State) (addr : Word) (v : Byte) : (s.writeByte addr v).p = s.p := rfl
@[simp] theorem State.writeByte_mem (s : State) (addr : Word) (v : Byte) : (s.writeByte addr v).mem = s.mem.write addr.toNat v := rfl

@[simp] theorem advance_a (len : Nat) (s : State) : (advance len s).a = s.a := rfl
@[simp] theorem advance_x (len : Nat) (s : State) : (advance len s).x = s.x := rfl
@[simp] theorem advance_y (len : Nat) (s : State) : (advance len s).y = s.y := rfl
@[simp] theorem advance_sp (len : Nat) (s : State) : (advance len s).sp = s.sp := rfl
@[simp] theorem advance_pc (len : Nat) (s : State) : (advance len s).pc = s.pc + BitVec.ofNat 16 len := rfl
@[simp] theorem advance_p (len : Nat) (s : State) : (advance len s).p = s.p := rfl
@[simp] theorem advance_mem (len : Nat) (s : State) : (advance len s).mem = s.mem := rfl

/-! ### Updates of a register named by a variable -/

@[simp] theorem State.setReg_pc (s : State) (r : Reg) (v : Byte) : (s.setReg r v).pc = s.pc := by cases r <;> rfl
@[simp] theorem State.setReg_p (s : State) (r : Reg) (v : Byte) : (s.setReg r v).p = s.p := by cases r <;> rfl
@[simp] theorem State.setReg_mem (s : State) (r : Reg) (v : Byte) : (s.setReg r v).mem = s.mem := by cases r <;> rfl

/-! ### The accessors after an update -/

@[simp] theorem State.reg_A (s : State) : s.reg .A = s.a := rfl
@[simp] theorem State.reg_X (s : State) : s.reg .X = s.x := rfl
@[simp] theorem State.reg_Y (s : State) : s.reg .Y = s.y := rfl
@[simp] theorem State.reg_SP (s : State) : s.reg .SP = s.sp := rfl

theorem State.reg_setReg (s : State) (r q : Reg) (v : Byte) : (s.setReg r v).reg q = if q = r then v else s.reg q := by
  cases r <;> cases q <;> rfl

@[simp] theorem State.reg_setReg_same (s : State) (r : Reg) (v : Byte) : (s.setReg r v).reg r = v := by
  simp [State.reg_setReg]

@[simp] theorem State.reg_setPc (s : State) (w : Word) (r : Reg) : (s.setPc w).reg r = s.reg r := by cases r <;> rfl
@[simp] theorem State.reg_setP (s : State) (q : Byte) (r : Reg) : (s.setP q).reg r = s.reg r := by cases r <;> rfl
@[simp] theorem State.reg_setFlag (s : State) (f : Flag) (v : Bool) (r : Reg) : (s.setFlag f v).reg r = s.reg r := by
  cases r <;> rfl
@[simp] theorem State.reg_setZN (s : State) (v : Byte) (r : Reg) : (s.setZN v).reg r = s.reg r := by cases r <;> rfl
@[simp] theorem State.reg_writeByte (s : State) (addr : Word) (v : Byte) (r : Reg) :
    (s.writeByte addr v).reg r = s.reg r := by cases r <;> rfl
@[simp] theorem reg_advance (len : Nat) (s : State) (r : Reg) : (advance len s).reg r = s.reg r := by cases r <;> rfl

/-- Two states are the same if their seven fields are. -/
theorem State.ext_fields {s t : State} (ha : s.a = t.a) (hx : s.x = t.x) (hy : s.y = t.y) (hsp : s.sp = t.sp)
    (hpc : s.pc = t.pc) (hp : s.p = t.p) (hmem : s.mem = t.mem) : s = t := by
  cases s; cases t; simp_all

end Sys2Proof.Machine
end

