-- ==== Sys2Proof/Laws/Memory.lean ====
section
/-!
SUPPORT. The laws of memory: what a read gives after a write, at the same address and at any other, and that every memory
operation keeps the canonical form.
-/

namespace Sys2Proof.Machine

/-! ### Reads of the memory list -/

theorem Memory.read_erase (m : Memory) (a b : Nat) : (m.erase a).read b = if b = a then unlisted else m.read b := by
  induction m with
  | nil => simp [erase, read]
  | cons c rest ih =>
    obtain ⟨k, v⟩ := c
    simp only [erase]
    by_cases hk : k = a
    · subst hk
      rw [if_pos rfl, ih]
      by_cases hb : b = k
      · simp [hb]
      · simp [read, hb, Ne.symm hb]
    · rw [if_neg hk]
      by_cases hb : b = a
      · subst hb; simp [read, hk, ih]
      · simp [read, ih, hb]

theorem Memory.not_mem_erase (m : Memory) (a : Nat) : ∀ c ∈ m.erase a, c.1 ≠ a := by
  induction m with
  | nil => simp [erase]
  | cons c rest ih =>
    obtain ⟨k, v⟩ := c
    simp only [erase]
    split
    · exact ih
    · intro d hd
      rcases List.mem_cons.1 hd with rfl | hd
      · assumption
      · exact ih d hd

theorem Memory.read_insert (m : Memory) (a b : Nat) (v : Byte) (h : ∀ c ∈ m, c.1 ≠ a) :
    (m.insert a v).read b = if b = a then v else m.read b := by
  induction m with
  | nil =>
    by_cases hb : b = a
    · simp [insert, read, hb]
    · simp [insert, read, hb, Ne.symm hb]
  | cons c rest ih =>
    obtain ⟨k, w⟩ := c
    have hk : k ≠ a := h (k, w) (by simp)
    simp only [insert]
    split
    · by_cases hb : b = a
      · simp [read, hb]
      · simp [read, hb, Ne.symm hb]
    · by_cases hb : b = a
      · subst hb
        simp [read, hk, ih (fun c hc => h c (by simp [hc]))]
      · simp [read, hb, ih (fun c hc => h c (by simp [hc]))]

/-- A read after a write: the value written at that address, the old value at any other (R30). -/
theorem Memory.read_write (m : Memory) (a b : Nat) (v : Byte) :
    (m.write a v).read b = if b = a then v else m.read b := by
  unfold write
  split
  · next h => simp [read_erase, h]
  · rw [read_insert _ _ _ _ (not_mem_erase m a), read_erase]
    split <;> rfl

/-! ### The canonical form -/

theorem Memory.wfFrom_cons (lo k : Nat) (v : Byte) (rest : Memory) :
    wfFrom lo ((k, v) :: rest) = true ↔ lo ≤ k ∧ k < 65536 ∧ v ≠ unlisted ∧ wfFrom (k + 1) rest = true := by
  simp [wfFrom, and_assoc]

theorem Memory.wfFrom_mono {m : Memory} {lo lo' : Nat} (h : wfFrom lo m = true) (hle : lo' ≤ lo) :
    wfFrom lo' m = true := by
  cases m with
  | nil => rfl
  | cons c rest =>
    obtain ⟨k, v⟩ := c
    rw [wfFrom_cons] at h ⊢
    exact ⟨by omega, h.2⟩

theorem Memory.wfFrom_erase {m : Memory} {lo : Nat} (a : Nat) (h : wfFrom lo m = true) :
    wfFrom lo (m.erase a) = true := by
  induction m generalizing lo with
  | nil => rfl
  | cons c rest ih =>
    obtain ⟨k, v⟩ := c
    rw [wfFrom_cons] at h
    simp only [erase]
    split
    · exact wfFrom_mono (ih h.2.2.2) (by omega)
    · rw [wfFrom_cons]
      exact ⟨h.1, h.2.1, h.2.2.1, ih h.2.2.2⟩

theorem Memory.wfFrom_insert {m : Memory} {lo a : Nat} {v : Byte} (h : wfFrom lo m = true) (hlo : lo ≤ a)
    (ha : a < 65536) (hv : v ≠ unlisted) (hm : ∀ c ∈ m, c.1 ≠ a) : wfFrom lo (m.insert a v) = true := by
  induction m generalizing lo with
  | nil => simp [insert, wfFrom, hlo, ha, hv]
  | cons c rest ih =>
    obtain ⟨k, w⟩ := c
    have hk : k ≠ a := hm (k, w) (by simp)
    rw [wfFrom_cons] at h
    simp only [insert]
    split
    · rw [wfFrom_cons, wfFrom_cons]
      exact ⟨hlo, ha, hv, by omega, h.2⟩
    · rw [wfFrom_cons]
      exact ⟨h.1, h.2.1, h.2.2.1, ih h.2.2.2 (by omega) (fun c hc => hm c (by simp [hc]))⟩

/-- A write inside the array keeps the canonical form. -/
theorem Memory.wf_write {m : Memory} (a : Nat) (v : Byte) (h : m.wf = true) (ha : a < 65536) :
    (m.write a v).wf = true := by
  unfold write wf
  split
  · exact wfFrom_erase a h
  · next hv => exact wfFrom_insert (wfFrom_erase a h) (Nat.zero_le a) ha hv (not_mem_erase m a)

/-- In a canonical memory that starts at `lo`, an address below `lo` is not listed. -/
theorem Memory.read_below {m : Memory} {lo a : Nat} (h : wfFrom lo m = true) (ha : a < lo) : m.read a = unlisted := by
  induction m generalizing lo with
  | nil => rfl
  | cons c rest ih =>
    obtain ⟨k, v⟩ := c
    rw [wfFrom_cons] at h
    rw [read, if_neg (by omega)]
    exact ih h.2.2.2 (by omega)

/-! ### Reads and writes of the state -/

theorem State.readByte_writeByte (s : State) (a b : Word) (v : Byte) :
    (s.writeByte a v).readByte b = if b = a then v else s.readByte b := by
  simp only [readByte, writeByte_mem, Memory.read_write]
  by_cases h : b = a
  · simp [h]
  · have : ¬ b.toNat = a.toNat := fun h' => h (BitVec.eq_of_toNat_eq h')
    simp [h, this]

@[simp] theorem State.readByte_writeByte_same (s : State) (a : Word) (v : Byte) :
    (s.writeByte a v).readByte a = v := by
  simp [readByte_writeByte]

theorem State.readByte_writeByte_other (s : State) {a b : Word} (v : Byte) (h : b ≠ a) :
    (s.writeByte a v).readByte b = s.readByte b := by
  simp [readByte_writeByte, h]

/-- Every update but a memory write leaves every byte of memory alone. -/
@[simp] theorem State.readByte_setReg (s : State) (r : Reg) (v : Byte) (a : Word) :
    (s.setReg r v).readByte a = s.readByte a := by
  simp [readByte]
@[simp] theorem State.readByte_setPc (s : State) (w a : Word) : (s.setPc w).readByte a = s.readByte a := rfl
@[simp] theorem State.readByte_setP (s : State) (q : Byte) (a : Word) : (s.setP q).readByte a = s.readByte a := rfl
@[simp] theorem State.readByte_setFlag (s : State) (f : Flag) (v : Bool) (a : Word) :
    (s.setFlag f v).readByte a = s.readByte a := rfl
@[simp] theorem State.readByte_setZN (s : State) (v : Byte) (a : Word) : (s.setZN v).readByte a = s.readByte a := rfl
@[simp] theorem readByte_advance (len : Nat) (s : State) (a : Word) : (advance len s).readByte a = s.readByte a := rfl

theorem State.writeByte_mem_wf (s : State) (a : Word) (v : Byte) (h : s.mem.wf = true) :
    (s.writeByte a v).mem.wf = true := by
  simpa using Memory.wf_write a.toNat v h (by omega)

end Sys2Proof.Machine
end

