-- ==== Sys2Proof/Laws/Flags.lean ====
section
/-!
SUPPORT. The laws of the status byte: a flag after a flag is written, the two constant bits, and that the eight flags are
the whole byte.
-/

namespace Sys2Proof.Machine

/-- The position of a flag in `P` (R13). -/
def flagBit : Flag → Nat
  | .C => 0
  | .Z => 1
  | .I => 2
  | .D => 3
  | .B => 4
  | .U => 5
  | .V => 6
  | .N => 7

theorem getFlag_eq_getLsbD (p : Byte) (f : Flag) : getFlag p f = p.getLsbD (flagBit f) := by
  revert p; cases f <;> decide

theorem getFlag_setFlag (p : Byte) (f g : Flag) (v : Bool) :
    getFlag (setFlag p f v) g = if g = f then v else getFlag p g := by
  simp only [getFlag_eq_getLsbD, setFlag]
  cases f <;> cases g <;> cases v <;> simp [flagBit, flagMask]

@[simp] theorem getFlag_setFlag_same (p : Byte) (f : Flag) (v : Bool) : getFlag (setFlag p f v) f = v := by
  simp [getFlag_setFlag]

theorem getFlag_setFlag_other (p : Byte) {f g : Flag} (v : Bool) (h : g ≠ f) :
    getFlag (setFlag p f v) g = getFlag p g := by
  simp [getFlag_setFlag, h]

theorem getFlag_setZN (p v : Byte) (g : Flag) :
    getFlag (setZN p v) g = if g = .N then v.msb else if g = .Z then v == 0 else getFlag p g := by
  simp only [setZN, getFlag_setFlag]

/-- The eight flags are the whole byte. -/
theorem status_ext {p q : Byte} (h : ∀ f, getFlag p f = getFlag q f) : p = q := by
  apply BitVec.eq_of_getLsbD_eq
  intro i hi
  have h0 := h .C
  have h1 := h .Z
  have h2 := h .I
  have h3 := h .D
  have h4 := h .B
  have h5 := h .U
  have h6 := h .V
  have h7 := h .N
  simp only [getFlag_eq_getLsbD, flagBit] at h0 h1 h2 h3 h4 h5 h6 h7
  interval_cases i <;> assumption

/-- Bits 4 and 5 are 0 exactly when the flags B and U are clear. -/
theorem constantBits_iff (p : Byte) :
    p &&& Config.pushedBits = 0 ↔ getFlag p .B = false ∧ getFlag p .U = false := by
  revert p; decide

/-- Writing any of the six live flags keeps bits 4 and 5 at 0 (R14). -/
theorem setFlag_constantBits {p : Byte} (f : Flag) (v : Bool) (hB : f ≠ .B) (hU : f ≠ .U)
    (h : p &&& Config.pushedBits = 0) : setFlag p f v &&& Config.pushedBits = 0 := by
  rw [constantBits_iff] at h ⊢
  simp [getFlag_setFlag, h, hB.symm, hU.symm]

theorem setZN_constantBits {p : Byte} (v : Byte) (h : p &&& Config.pushedBits = 0) :
    setZN p v &&& Config.pushedBits = 0 :=
  setFlag_constantBits _ _ (by decide) (by decide) (setFlag_constantBits _ _ (by decide) (by decide) h)

/-- What is loaded from a pulled byte has bits 4 and 5 at 0 (R14). -/
theorem pulledStatus_constantBits (v : Byte) : pulledStatus v &&& Config.pushedBits = 0 := by
  revert v; decide

/-- Pulling back a pushed copy gives the status byte it was made from (R178, R179). -/
theorem pulledStatus_pushedStatus {p : Byte} (h : p &&& Config.pushedBits = 0) :
    pulledStatus (pushedStatus p) = p := by
  revert p; decide

/-! ### Flags of the state -/

theorem State.flag_setFlag (s : State) (f g : Flag) (v : Bool) :
    (s.setFlag f v).flag g = if g = f then v else s.flag g := by
  simp [flag, getFlag_setFlag]

theorem State.flag_setZN (s : State) (v : Byte) (g : Flag) :
    (s.setZN v).flag g = if g = .N then v.msb else if g = .Z then v == 0 else s.flag g := by
  simp [flag, getFlag_setZN]

@[simp] theorem State.flag_setReg (s : State) (r : Reg) (v : Byte) (f : Flag) : (s.setReg r v).flag f = s.flag f := by
  simp [flag]
@[simp] theorem State.flag_setPc (s : State) (w : Word) (f : Flag) : (s.setPc w).flag f = s.flag f := rfl
@[simp] theorem State.flag_writeByte (s : State) (a : Word) (v : Byte) (f : Flag) :
    (s.writeByte a v).flag f = s.flag f := rfl
@[simp] theorem flag_advance (len : Nat) (s : State) (f : Flag) : (advance len s).flag f = s.flag f := rfl
@[simp] theorem State.flag_setP (s : State) (q : Byte) (f : Flag) : (s.setP q).flag f = getFlag q f := rfl

end Sys2Proof.Machine
end

