-- ==== Sys2Proof/Laws/Ops.lean ====
section
/-!
SUPPORT. One lemma for each shared operation over the stack, the trap and the host's transactions, saying once what it
does, and that each keeps the invariant.
-/

namespace Sys2Proof.Machine

/-! ### Stack addresses (R11, R45) -/

theorem stackAddr_toNat (sp : Byte) : (stackAddr sp).toNat = 256 + sp.toNat := by
  revert sp; decide

theorem stackAddr_inj {a b : Byte} (h : stackAddr a = stackAddr b) : a = b := by
  apply BitVec.eq_of_toNat_eq
  have := congrArg BitVec.toNat h
  rw [stackAddr_toNat, stackAddr_toNat] at this
  omega

theorem stackAddr_ne {a b : Byte} (h : a ≠ b) : stackAddr a ≠ stackAddr b := fun h' => h (stackAddr_inj h')

/-- An address outside the stack page is no stack address. -/
theorem ne_stackAddr_of_outside {w : Word} (h : w.toNat < 256 ∨ 511 < w.toNat) (sp : Byte) : w ≠ stackAddr sp := by
  rintro rfl
  rw [stackAddr_toNat] at h
  omega

/-! ### Push and pull (R43 to R45) -/

@[simp] theorem push8_a (v : Byte) (s : State) : (push8 v s).a = s.a := rfl
@[simp] theorem push8_x (v : Byte) (s : State) : (push8 v s).x = s.x := rfl
@[simp] theorem push8_y (v : Byte) (s : State) : (push8 v s).y = s.y := rfl
@[simp] theorem push8_sp (v : Byte) (s : State) : (push8 v s).sp = s.sp - 1 := rfl
@[simp] theorem push8_pc (v : Byte) (s : State) : (push8 v s).pc = s.pc := rfl
@[simp] theorem push8_p (v : Byte) (s : State) : (push8 v s).p = s.p := rfl
@[simp] theorem push8_mem (v : Byte) (s : State) : (push8 v s).mem = s.mem.write (stackAddr s.sp).toNat v := rfl

theorem readByte_push8 (v : Byte) (s : State) (a : Word) :
    (push8 v s).readByte a = if a = stackAddr s.sp then v else s.readByte a := by
  simp [push8, State.readByte_writeByte]

@[simp] theorem pull8_fst (s : State) : (pull8 s).1 = s.readByte (stackAddr (s.sp + 1)) := rfl
@[simp] theorem pull8_snd (s : State) : (pull8 s).2 = s.setReg .SP (s.sp + 1) := rfl

@[simp] theorem push16_a (w : Word) (s : State) : (push16 w s).a = s.a := rfl
@[simp] theorem push16_x (w : Word) (s : State) : (push16 w s).x = s.x := rfl
@[simp] theorem push16_y (w : Word) (s : State) : (push16 w s).y = s.y := rfl
@[simp] theorem push16_sp (w : Word) (s : State) : (push16 w s).sp = s.sp - 1 - 1 := rfl
@[simp] theorem push16_pc (w : Word) (s : State) : (push16 w s).pc = s.pc := rfl
@[simp] theorem push16_p (w : Word) (s : State) : (push16 w s).p = s.p := rfl

theorem readByte_push16 (w : Word) (s : State) (a : Word) :
    (push16 w s).readByte a =
      if a = stackAddr (s.sp - 1) then lo8 w else if a = stackAddr s.sp then hi8 w else s.readByte a := by
  simp [push16, readByte_push8]

@[simp] theorem pull16_fst (s : State) :
    (pull16 s).1 = hilo (s.readByte (stackAddr (s.sp + 1 + 1))) (s.readByte (stackAddr (s.sp + 1))) := by
  simp [pull16]
@[simp] theorem pull16_snd (s : State) : (pull16 s).2 = s.setReg .SP (s.sp + 1 + 1) := rfl

/-- Pulling what has just been pushed (R43, R44). -/
theorem pull8_push8 (v : Byte) (s : State) : (pull8 (push8 v s)).1 = v ∧ (pull8 (push8 v s)).2.sp = s.sp := by
  simp [readByte_push8]

/-! ### The indirect jump's second pointer byte (R81) -/

theorem or_of_masks (u w : Word) : (u &&& 0xFF00) ||| (w &&& 0x00FF) = hilo (hi8 u) (lo8 w) := by
  apply BitVec.eq_of_getLsbD_eq
  intro i hi
  interval_cases i <;> (rw [hilo, BitVec.getLsbD_append]; simp [hi8, lo8])

/-- The second byte's address keeps the pointer's page and steps its low byte modulo 256. -/
theorem samePageNext_eq (ptr : Word) : samePageNext ptr = hilo (hi8 ptr) (lo8 ptr + 1) := by
  rw [samePageNext, or_of_masks]
  simp [lo8, BitVec.setWidth_add]

/-! ### The trap (R202, R203) -/

theorem enterTrap_fields (ret vector : Word) (s : State) :
    (enterTrap ret vector s).a = s.a ∧ (enterTrap ret vector s).x = s.x ∧ (enterTrap ret vector s).y = s.y ∧
    (enterTrap ret vector s).sp = s.sp - 1 - 1 - 1 ∧ (enterTrap ret vector s).p = setFlag s.p .I true := by
  simp [enterTrap]

theorem readByte_enterTrap (ret vector : Word) (s : State) (a : Word) :
    (enterTrap ret vector s).readByte a =
      if a = stackAddr (s.sp - 1 - 1) then pushedStatus s.p
      else if a = stackAddr (s.sp - 1) then lo8 ret
      else if a = stackAddr s.sp then hi8 ret
      else s.readByte a := by
  simp only [enterTrap, State.readByte_setPc, State.readByte_setFlag, readByte_push8, readByte_push16, push16_sp]

/-- The vector is read after the pushes (R202). -/
theorem enterTrap_pc (ret vector : Word) (s : State) :
    (enterTrap ret vector s).pc = (enterTrap ret vector s).readWord vector := rfl

theorem returnFromTrap_fields (s : State) :
    (returnFromTrap s).a = s.a ∧ (returnFromTrap s).x = s.x ∧ (returnFromTrap s).y = s.y ∧
    (returnFromTrap s).sp = s.sp + 1 + 1 + 1 ∧
    (returnFromTrap s).p = pulledStatus (s.readByte (stackAddr (s.sp + 1))) ∧
    (returnFromTrap s).pc =
      hilo (s.readByte (stackAddr (s.sp + 1 + 1 + 1))) (s.readByte (stackAddr (s.sp + 1 + 1))) ∧
    (returnFromTrap s).mem = s.mem := by
  simp [returnFromTrap]

/-! ### The fetch (R61) -/

/-- Three bytes are always there to be fetched, so the decoder answers an instruction or the opcode is unassigned. -/
theorem decode_fetchBytes (s : State) :
    (∃ i r, decode (fetchBytes s) = .ok (i, r)) ∨ decodeOpcode (s.readByte s.pc) = .unassigned :=
  assemble_ok_or_unassigned _ _ _ [] _

/-- What one step can do, once: run the decoded instruction, or fault on an unassigned opcode (R61, R63). -/
theorem step_cases (s : State) :
    (∃ i r, decode (fetchBytes s) = .ok (i, r) ∧ step s = exec i s) ∨
    (decodeOpcode (s.readByte s.pc) = .unassigned ∧
      step s = .fault (.illegalOpcode s.pc (s.readByte s.pc))) := by
  rcases decode_fetchBytes s with ⟨i, r, h⟩ | h
  · exact .inl ⟨i, r, h, by simp [step, h]⟩
  · refine .inr ⟨h, ?_⟩
    simp [step, fetchBytes, decode_cons, h, Format.assemble]

/-! ### The invariant under the shared operations -/

theorem State.Inv.setReg {s : State} (h : s.Inv) (r : Reg) (v : Byte) : (s.setReg r v).Inv :=
  ⟨by simpa using h.memory, by simpa using h.status⟩

theorem State.Inv.setPc {s : State} (h : s.Inv) (w : Word) : (s.setPc w).Inv := ⟨h.memory, h.status⟩

theorem State.Inv.advance {s : State} (h : s.Inv) (len : Nat) : (advance len s).Inv := ⟨h.memory, h.status⟩

theorem State.Inv.writeByte {s : State} (h : s.Inv) (a : Word) (v : Byte) : (s.writeByte a v).Inv :=
  ⟨s.writeByte_mem_wf a v h.memory, h.status⟩

theorem State.Inv.setP {s : State} (h : s.Inv) {q : Byte} (hq : q &&& Config.pushedBits = 0) : (s.setP q).Inv :=
  ⟨h.memory, hq⟩

theorem State.Inv.setFlag {s : State} (h : s.Inv) (f : Flag) (v : Bool) (hB : f ≠ .B) (hU : f ≠ .U) :
    (s.setFlag f v).Inv :=
  h.setP (setFlag_constantBits f v hB hU h.status)

theorem State.Inv.setZN {s : State} (h : s.Inv) (v : Byte) : (s.setZN v).Inv := h.setP (setZN_constantBits v h.status)

theorem State.Inv.push8 {s : State} (h : s.Inv) (v : Byte) : (push8 v s).Inv := (h.writeByte _ v).setReg _ _

theorem State.Inv.push16 {s : State} (h : s.Inv) (w : Word) : (push16 w s).Inv := (h.push8 _).push8 _

theorem State.Inv.enterTrap {s : State} (h : s.Inv) (ret vector : Word) : (enterTrap ret vector s).Inv :=
  (((h.push16 ret).push8 _).setFlag .I true (by decide) (by decide)).setPc _

theorem State.Inv.returnFromTrap {s : State} (h : s.Inv) : (returnFromTrap s).Inv :=
  ⟨h.memory, pulledStatus_constantBits _⟩

theorem State.Inv.writeBack {s : State} (h : s.Inv) (d : Dst) (v : Byte) : (d.writeBack v s).Inv := by
  cases d
  · exact h.setReg .A v
  · exact h.writeByte _ v

/-! ### Frames of the shared operations -/

/-- A frame for fewer exceptions is a frame for more. -/
theorem Frame.mono {regs regs' : List Reg} {flags flags' : List Flag} {stored stored' : List Word} {s t : State}
    (h : Frame regs flags stored s t) (hr : ∀ r ∈ regs, r ∈ regs') (hf : ∀ f ∈ flags, f ∈ flags')
    (hs : ∀ a ∈ stored, a ∈ stored') : Frame regs' flags' stored' s t :=
  ⟨fun r h' => h.registers r fun h'' => h' (hr r h''), fun f h' => h.status f fun h'' => h' (hf f h''),
    fun a h' => h.memory a fun h'' => h' (hs a h'')⟩

theorem Frame.refl (s : State) : Frame [] [] [] s s := ⟨fun _ _ => rfl, fun _ _ => rfl, fun _ _ => rfl⟩

/-- Frames of two updates in a row. -/
theorem Frame.trans {r1 r2 : List Reg} {f1 f2 : List Flag} {a1 a2 : List Word} {s t u : State}
    (h : Frame r1 f1 a1 s t) (h' : Frame r2 f2 a2 t u) : Frame (r1 ++ r2) (f1 ++ f2) (a1 ++ a2) s u := by
  constructor
  · intro r hr
    rw [List.mem_append, not_or] at hr
    rw [h'.registers r hr.2, h.registers r hr.1]
  · intro f hf
    rw [List.mem_append, not_or] at hf
    rw [h'.status f hf.2, h.status f hf.1]
  · intro a ha
    rw [List.mem_append, not_or] at ha
    rw [h'.memory a ha.2, h.memory a ha.1]

theorem frame_setReg (s : State) (r : Reg) (v : Byte) : Frame [r] [] [] s (s.setReg r v) :=
  ⟨fun q hq => by simp_all [State.reg_setReg], fun f _ => by simp, fun a _ => by simp⟩

theorem frame_setPc (s : State) (w : Word) : Frame [] [] [] s (s.setPc w) :=
  ⟨fun r _ => by simp, fun _ _ => rfl, fun _ _ => rfl⟩

theorem frame_advance (len : Nat) (s : State) : Frame [] [] [] s (advance len s) := frame_setPc _ _

theorem frame_setFlag (s : State) (f : Flag) (v : Bool) : Frame [] [f] [] s (s.setFlag f v) :=
  ⟨fun r _ => by simp, fun g hg => by simp_all [State.flag_setFlag], fun _ _ => rfl⟩

theorem frame_setZN (s : State) (v : Byte) : Frame [] [.Z, .N] [] s (s.setZN v) :=
  ⟨fun r _ => by simp, fun g hg => by simp_all [State.flag_setZN], fun _ _ => rfl⟩

theorem frame_setP (s : State) (q : Byte) : Frame [] [.C, .Z, .I, .D, .B, .U, .V, .N] [] s (s.setP q) :=
  ⟨fun r _ => by simp, fun g hg => by cases g <;> simp at hg, fun _ _ => rfl⟩

theorem frame_writeByte (s : State) (a : Word) (v : Byte) : Frame [] [] [a] s (s.writeByte a v) :=
  ⟨fun r _ => by simp, fun _ _ => rfl, fun b hb => s.readByte_writeByte_other v (by simpa using hb)⟩

theorem frame_push8 (v : Byte) (s : State) : Frame [.SP] [] [stackAddr s.sp] s (push8 v s) :=
  ((frame_writeByte s _ v).trans (frame_setReg _ .SP _)).mono (by simp) (by simp) (by simp)

theorem frame_push16 (w : Word) (s : State) :
    Frame [.SP] [] [stackAddr s.sp, stackAddr (s.sp - 1)] s (push16 w s) :=
  ((frame_push8 (hi8 w) s).trans (frame_push8 (lo8 w) _)).mono (by simp) (by simp) (by simp)

end Sys2Proof.Machine
end

