-- ==== Sys2Proof/Laws/Meanings.lean ====
section
/-!
SUPPORT. One lemma for each shared operation that the instructions' meanings are one line over: what it leaves unchanged,
and that it keeps the invariant. The value it computes is its definition's single expression.
-/

namespace Sys2Proof.Machine

/-- The answer is a next state that keeps the invariant and agrees with the old state outside the given registers, flags
and bytes. -/
def Does (regs : List Reg) (flags : List Flag) (stored : List Word) (s : State) (r : Result) : Prop :=
  ∃ t, r = .next t ∧ Frame regs flags stored s t ∧ (s.Inv → t.Inv)

theorem Does.mono {regs regs' : List Reg} {flags flags' : List Flag} {stored stored' : List Word} {s : State} {r : Result}
    (h : Does regs flags stored s r) (hr : ∀ q ∈ regs, q ∈ regs') (hf : ∀ f ∈ flags, f ∈ flags')
    (hs : ∀ a ∈ stored, a ∈ stored') : Does regs' flags' stored' s r := by
  obtain ⟨t, h1, h2, h3⟩ := h
  exact ⟨t, h1, h2.mono hr hf hs, h3⟩

theorem takeSum_frame (sum : Sum) (s : State) : Frame [.A] [.C, .V, .Z, .N] [] s (takeSum sum s) :=
  ((((frame_setReg s .A sum.result).trans (frame_setFlag _ .C sum.carry)).trans (frame_setFlag _ .V sum.overflow)).trans
    (frame_setZN _ sum.result)).mono (by simp) (by simp) (by simp)

theorem takeSum_inv (sum : Sum) {s : State} (h : s.Inv) : (takeSum sum s).Inv :=
  (((h.setReg .A _).setFlag .C _ (by decide) (by decide)).setFlag .V _ (by decide) (by decide)).setZN _

theorem adc_does (src : Src) (s : State) : Does [.A] [.C, .V, .Z, .N] [] s (adc src s) :=
  ⟨_, rfl, ((takeSum_frame _ s).trans (frame_advance _ _)).mono (by simp) (by simp) (by simp),
    fun h => (takeSum_inv _ h).advance _⟩

theorem sbc_does (src : Src) (s : State) : Does [.A] [.C, .V, .Z, .N] [] s (sbc src s) :=
  ⟨_, rfl, ((takeSum_frame _ s).trans (frame_advance _ _)).mono (by simp) (by simp) (by simp),
    fun h => (takeSum_inv _ h).advance _⟩

/-- A register takes a byte, Z and N follow it, and the program counter advances. -/
theorem takeByte_does (r : Reg) (v : Byte) (len : Nat) (s : State) :
    Does [r] [.Z, .N] [] s (.next (advance len ((s.setReg r v).setZN v))) :=
  ⟨_, rfl, (((frame_setReg s r v).trans (frame_setZN _ v)).trans (frame_advance _ _)).mono (by simp) (by simp) (by simp),
    fun h => ((h.setReg r v).setZN v).advance len⟩

theorem logic_does (f : Byte → Byte → Byte) (src : Src) (s : State) : Does [.A] [.Z, .N] [] s (logic f src s) :=
  takeByte_does .A _ _ s

theorem loadReg_does (r : Reg) (src : Src) (s : State) : Does [r] [.Z, .N] [] s (loadReg r src s) :=
  takeByte_does r _ _ s

theorem stepRegister_does (f : Byte → Byte) (r : Reg) (s : State) : Does [r] [.Z, .N] [] s (stepRegister f r s) :=
  takeByte_does r _ _ s

theorem transfer_does (src dst : Reg) (s : State) : Does [dst] [.Z, .N] [] s (transfer src dst s) :=
  takeByte_does dst _ _ s

theorem bitTest_does (m : MemMode) (s : State) : Does [] [.Z, .N, .V] [] s (bitTest m s) := by
  refine ⟨_, rfl, ((show Frame [] [.Z, .N, .V] [] s _ from ?_).trans (frame_advance _ _)).mono (by simp) (by simp) (by simp),
    fun h => (h.setP ?_).advance _⟩
  · exact (((frame_setFlag s .Z _).trans (frame_setFlag _ .N _)).trans (frame_setFlag _ .V _)).mono (by simp) (by simp)
      (by simp)
  · exact setFlag_constantBits .V _ (by decide) (by decide) (setFlag_constantBits .N _ (by decide) (by decide)
      (setFlag_constantBits .Z _ (by decide) (by decide) h.status))

theorem compareReg_does (r : Reg) (src : Src) (s : State) : Does [] [.C, .Z, .N] [] s (compareReg r src s) := by
  refine ⟨_, rfl, ((show Frame [] [.C, .Z, .N] [] s _ from ?_).trans (frame_advance _ _)).mono (by simp) (by simp) (by simp),
    fun h => (h.setP ?_).advance _⟩
  · exact ((frame_setFlag s .C _).trans (frame_setZN _ _)).mono (by simp) (by simp) (by simp)
  · exact setZN_constantBits _ (setFlag_constantBits .C _ (by decide) (by decide) h.status)

theorem storeReg_does (r : Reg) (m : MemMode) (s : State) : Does [] [] [m.ea s] s (storeReg r m s) :=
  ⟨_, rfl, ((frame_writeByte s _ _).trans (frame_advance _ _)).mono (by simp) (by simp) (by simp),
    fun h => (h.writeByte _ _).advance _⟩

theorem stepMemory_does (f : Byte → Byte) (m : MemMode) (s : State) :
    Does [] [.Z, .N] [m.ea s] s (stepMemory f m s) :=
  ⟨_, rfl, (((frame_writeByte s _ _).trans (frame_setZN _ _)).trans (frame_advance _ _)).mono (by simp) (by simp) (by simp),
    fun h => ((h.writeByte _ _).setZN _).advance _⟩

theorem shift_acc_does (f : Byte → Bool → Shifted) (s : State) : Does [.A] [.C, .Z, .N] [] s (shift f .acc s) :=
  ⟨_, rfl, ((((frame_setReg s .A _).trans (frame_setFlag _ .C _)).trans (frame_setZN _ _)).trans (frame_advance _ _)).mono
    (by simp) (by simp) (by simp), fun h => (((h.writeBack .acc _).setFlag .C _ (by decide) (by decide)).setZN _).advance _⟩

theorem shift_mem_does (f : Byte → Bool → Shifted) (m : MemMode) (s : State) :
    Does [] [.C, .Z, .N] [m.ea s] s (shift f (.mem m) s) :=
  ⟨_, rfl, ((((frame_writeByte s _ _).trans (frame_setFlag _ .C _)).trans (frame_setZN _ _)).trans (frame_advance _ _)).mono
    (by simp) (by simp) (by simp),
    fun h => (((h.writeBack (.mem m) _).setFlag .C _ (by decide) (by decide)).setZN _).advance _⟩

theorem branch_does (taken : Bool) (b1 : Byte) (s : State) : Does [] [] [] s (branch taken b1 s) := by
  cases taken
  · exact ⟨_, rfl, frame_advance _ _, fun h => h.advance _⟩
  · exact ⟨_, rfl, frame_setPc _ _, fun h => h.setPc _⟩

theorem writeFlag_does (f : Flag) (v : Bool) (s : State) (hB : f ≠ .B) (hU : f ≠ .U) :
    Does [] [f] [] s (writeFlag f v s) :=
  ⟨_, rfl, ((frame_setFlag s f v).trans (frame_advance _ _)).mono (by simp) (by simp) (by simp),
    fun h => (h.setFlag f v hB hU).advance _⟩

/-! ### The meanings that are not over a shared operation -/

theorem execTxs_does (s : State) : Does [.SP] [] [] s (execTxs s) :=
  ⟨_, rfl, ((frame_setReg s .SP _).trans (frame_advance _ _)).mono (by simp) (by simp) (by simp),
    fun h => (h.setReg .SP _).advance _⟩

theorem execPha_does (s : State) : Does [.SP] [] [stackAddr s.sp] s (execPha s) :=
  ⟨_, rfl, ((frame_push8 _ s).trans (frame_advance _ _)).mono (by simp) (by simp) (by simp),
    fun h => (h.push8 _).advance _⟩

theorem execPhp_does (s : State) : Does [.SP] [] [stackAddr s.sp] s (execPhp s) :=
  ⟨_, rfl, ((frame_push8 _ s).trans (frame_advance _ _)).mono (by simp) (by simp) (by simp),
    fun h => (h.push8 _).advance _⟩

theorem execPla_does (s : State) : Does [.SP, .A] [.Z, .N] [] s (execPla s) :=
  ⟨_, rfl, ((((frame_setReg s .SP _).trans (frame_setReg _ .A _)).trans (frame_setZN _ _)).trans (frame_advance _ _)).mono
    (by simp) (by simp) (by simp), fun h => (((h.setReg .SP _).setReg .A _).setZN _).advance _⟩

theorem execPlp_does (s : State) : Does [.SP] [.C, .Z, .I, .D, .B, .U, .V, .N] [] s (execPlp s) :=
  ⟨_, rfl, (((frame_setReg s .SP _).trans (frame_setP _ _)).trans (frame_advance _ _)).mono (by simp) (by simp) (by simp),
    fun h => ((h.setReg .SP _).setP (pulledStatus_constantBits _)).advance _⟩

theorem execJmpAbs_does (w : Word) (s : State) : Does [] [] [] s (execJmpAbs w s) :=
  ⟨_, rfl, frame_setPc _ _, fun h => h.setPc _⟩

theorem execJmpInd_does (w : Word) (s : State) : Does [] [] [] s (execJmpInd w s) :=
  ⟨_, rfl, frame_setPc _ _, fun h => h.setPc _⟩

theorem execJsr_does (w : Word) (s : State) :
    Does [.SP] [] [stackAddr s.sp, stackAddr (s.sp - 1)] s (execJsr w s) :=
  ⟨_, rfl, ((frame_push16 _ s).trans (frame_setPc _ _)).mono (by simp) (by simp) (by simp),
    fun h => (h.push16 _).setPc _⟩

theorem execRts_does (s : State) : Does [.SP] [] [] s (execRts s) :=
  ⟨_, rfl, ((frame_setReg s .SP _).trans (frame_setPc _ _)).mono (by simp) (by simp) (by simp),
    fun h => (h.setReg .SP _).setPc _⟩

theorem execBrk_does (s : State) :
    Does [.SP] [.I] [stackAddr s.sp, stackAddr (s.sp - 1), stackAddr (s.sp - 2)] s (execBrk s) := by
  have h2 : s.sp - 2 = s.sp - 1 - 1 := by bv_omega
  rw [h2]
  exact ⟨_, rfl,
    ((((frame_push16 _ s).trans (frame_push8 _ _)).trans (frame_setFlag _ .I true)).trans (frame_setPc _ _)).mono
      (by simp) (by simp) (by simp), fun h => h.enterTrap _ _⟩

theorem execRti_does (s : State) : Does [.SP] [.C, .Z, .I, .D, .B, .U, .V, .N] [] s (execRti s) :=
  ⟨_, rfl, ((((frame_setReg s .SP _).trans (frame_setP _ _)).trans (frame_setReg _ .SP _)).trans (frame_setPc _ _)).mono
    (by simp) (by simp) (by simp), fun h => h.returnFromTrap⟩

theorem execNop_does (s : State) : Does [] [] [] s (execNop s) :=
  ⟨_, rfl, frame_advance _ _, fun h => h.advance _⟩

end Sys2Proof.Machine
end

