-- ==== Sys2Proof/Laws/PerInstr.lean ====
section
/-!
SUPPORT. One lemma per constructor of `Instr`: its encoding passes every check of WellFormed.lean, whatever the operand,
and is as long as its addressing mode says.
-/

namespace Sys2Proof

theorem codeWellFormed_f1 {op : Byte} {i : Instr} (h : decodeOpcode op = .f1 i) : codeWellFormed [op] = true := by
  simp [codeWellFormed, hasOpcode, opcodeAssigned, operandsComplete, nothingLeftOver, Format.operandCount, h]

theorem codeWellFormed_f2 {op : Byte} {mk : Byte → Instr} (h : decodeOpcode op = .f2 mk) (b1 : Byte) :
    codeWellFormed [op, b1] = true := by
  simp [codeWellFormed, hasOpcode, opcodeAssigned, operandsComplete, nothingLeftOver, Format.operandCount, h]

theorem codeWellFormed_f3 {op : Byte} {mk : Word → Instr} (h : decodeOpcode op = .f3 mk) (b1 b2 : Byte) :
    codeWellFormed [op, b1, b2] = true := by
  simp [codeWellFormed, hasOpcode, opcodeAssigned, operandsComplete, nothingLeftOver, Format.operandCount, h]

end Sys2Proof

namespace Sys2Proof.Laws.WellFormedEncoding

/-- The encoding is exactly one assigned instruction, of the mode's length (R50 to R52). -/
def Statement (i : Instr) : Prop := i.wellFormed = true ∧ (encode i).length = i.length

theorem adcImm (b1 : Byte) : Statement (.adcImm b1) := ⟨codeWellFormed_f2 (op := 0x69) rfl b1, rfl⟩
theorem adcZp (b1 : Byte) : Statement (.adcZp b1) := ⟨codeWellFormed_f2 (op := 0x65) rfl b1, rfl⟩
theorem adcZpx (b1 : Byte) : Statement (.adcZpx b1) := ⟨codeWellFormed_f2 (op := 0x75) rfl b1, rfl⟩
theorem adcAbs (w : Word) : Statement (.adcAbs w) := ⟨codeWellFormed_f3 (op := 0x6D) rfl (lo8 w) (hi8 w), rfl⟩
theorem adcAbsx (w : Word) : Statement (.adcAbsx w) := ⟨codeWellFormed_f3 (op := 0x7D) rfl (lo8 w) (hi8 w), rfl⟩
theorem adcAbsy (w : Word) : Statement (.adcAbsy w) := ⟨codeWellFormed_f3 (op := 0x79) rfl (lo8 w) (hi8 w), rfl⟩
theorem adcIndx (b1 : Byte) : Statement (.adcIndx b1) := ⟨codeWellFormed_f2 (op := 0x61) rfl b1, rfl⟩
theorem adcIndy (b1 : Byte) : Statement (.adcIndy b1) := ⟨codeWellFormed_f2 (op := 0x71) rfl b1, rfl⟩
theorem sbcImm (b1 : Byte) : Statement (.sbcImm b1) := ⟨codeWellFormed_f2 (op := 0xE9) rfl b1, rfl⟩
theorem sbcZp (b1 : Byte) : Statement (.sbcZp b1) := ⟨codeWellFormed_f2 (op := 0xE5) rfl b1, rfl⟩
theorem sbcZpx (b1 : Byte) : Statement (.sbcZpx b1) := ⟨codeWellFormed_f2 (op := 0xF5) rfl b1, rfl⟩
theorem sbcAbs (w : Word) : Statement (.sbcAbs w) := ⟨codeWellFormed_f3 (op := 0xED) rfl (lo8 w) (hi8 w), rfl⟩
theorem sbcAbsx (w : Word) : Statement (.sbcAbsx w) := ⟨codeWellFormed_f3 (op := 0xFD) rfl (lo8 w) (hi8 w), rfl⟩
theorem sbcAbsy (w : Word) : Statement (.sbcAbsy w) := ⟨codeWellFormed_f3 (op := 0xF9) rfl (lo8 w) (hi8 w), rfl⟩
theorem sbcIndx (b1 : Byte) : Statement (.sbcIndx b1) := ⟨codeWellFormed_f2 (op := 0xE1) rfl b1, rfl⟩
theorem sbcIndy (b1 : Byte) : Statement (.sbcIndy b1) := ⟨codeWellFormed_f2 (op := 0xF1) rfl b1, rfl⟩
theorem andImm (b1 : Byte) : Statement (.andImm b1) := ⟨codeWellFormed_f2 (op := 0x29) rfl b1, rfl⟩
theorem andZp (b1 : Byte) : Statement (.andZp b1) := ⟨codeWellFormed_f2 (op := 0x25) rfl b1, rfl⟩
theorem andZpx (b1 : Byte) : Statement (.andZpx b1) := ⟨codeWellFormed_f2 (op := 0x35) rfl b1, rfl⟩
theorem andAbs (w : Word) : Statement (.andAbs w) := ⟨codeWellFormed_f3 (op := 0x2D) rfl (lo8 w) (hi8 w), rfl⟩
theorem andAbsx (w : Word) : Statement (.andAbsx w) := ⟨codeWellFormed_f3 (op := 0x3D) rfl (lo8 w) (hi8 w), rfl⟩
theorem andAbsy (w : Word) : Statement (.andAbsy w) := ⟨codeWellFormed_f3 (op := 0x39) rfl (lo8 w) (hi8 w), rfl⟩
theorem andIndx (b1 : Byte) : Statement (.andIndx b1) := ⟨codeWellFormed_f2 (op := 0x21) rfl b1, rfl⟩
theorem andIndy (b1 : Byte) : Statement (.andIndy b1) := ⟨codeWellFormed_f2 (op := 0x31) rfl b1, rfl⟩
theorem oraImm (b1 : Byte) : Statement (.oraImm b1) := ⟨codeWellFormed_f2 (op := 0x09) rfl b1, rfl⟩
theorem oraZp (b1 : Byte) : Statement (.oraZp b1) := ⟨codeWellFormed_f2 (op := 0x05) rfl b1, rfl⟩
theorem oraZpx (b1 : Byte) : Statement (.oraZpx b1) := ⟨codeWellFormed_f2 (op := 0x15) rfl b1, rfl⟩
theorem oraAbs (w : Word) : Statement (.oraAbs w) := ⟨codeWellFormed_f3 (op := 0x0D) rfl (lo8 w) (hi8 w), rfl⟩
theorem oraAbsx (w : Word) : Statement (.oraAbsx w) := ⟨codeWellFormed_f3 (op := 0x1D) rfl (lo8 w) (hi8 w), rfl⟩
theorem oraAbsy (w : Word) : Statement (.oraAbsy w) := ⟨codeWellFormed_f3 (op := 0x19) rfl (lo8 w) (hi8 w), rfl⟩
theorem oraIndx (b1 : Byte) : Statement (.oraIndx b1) := ⟨codeWellFormed_f2 (op := 0x01) rfl b1, rfl⟩
theorem oraIndy (b1 : Byte) : Statement (.oraIndy b1) := ⟨codeWellFormed_f2 (op := 0x11) rfl b1, rfl⟩
theorem eorImm (b1 : Byte) : Statement (.eorImm b1) := ⟨codeWellFormed_f2 (op := 0x49) rfl b1, rfl⟩
theorem eorZp (b1 : Byte) : Statement (.eorZp b1) := ⟨codeWellFormed_f2 (op := 0x45) rfl b1, rfl⟩
theorem eorZpx (b1 : Byte) : Statement (.eorZpx b1) := ⟨codeWellFormed_f2 (op := 0x55) rfl b1, rfl⟩
theorem eorAbs (w : Word) : Statement (.eorAbs w) := ⟨codeWellFormed_f3 (op := 0x4D) rfl (lo8 w) (hi8 w), rfl⟩
theorem eorAbsx (w : Word) : Statement (.eorAbsx w) := ⟨codeWellFormed_f3 (op := 0x5D) rfl (lo8 w) (hi8 w), rfl⟩
theorem eorAbsy (w : Word) : Statement (.eorAbsy w) := ⟨codeWellFormed_f3 (op := 0x59) rfl (lo8 w) (hi8 w), rfl⟩
theorem eorIndx (b1 : Byte) : Statement (.eorIndx b1) := ⟨codeWellFormed_f2 (op := 0x41) rfl b1, rfl⟩
theorem eorIndy (b1 : Byte) : Statement (.eorIndy b1) := ⟨codeWellFormed_f2 (op := 0x51) rfl b1, rfl⟩
theorem bitZp (b1 : Byte) : Statement (.bitZp b1) := ⟨codeWellFormed_f2 (op := 0x24) rfl b1, rfl⟩
theorem bitAbs (w : Word) : Statement (.bitAbs w) := ⟨codeWellFormed_f3 (op := 0x2C) rfl (lo8 w) (hi8 w), rfl⟩
theorem aslAcc : Statement .aslAcc := ⟨codeWellFormed_f1 (op := 0x0A) rfl, rfl⟩
theorem aslZp (b1 : Byte) : Statement (.aslZp b1) := ⟨codeWellFormed_f2 (op := 0x06) rfl b1, rfl⟩
theorem aslZpx (b1 : Byte) : Statement (.aslZpx b1) := ⟨codeWellFormed_f2 (op := 0x16) rfl b1, rfl⟩
theorem aslAbs (w : Word) : Statement (.aslAbs w) := ⟨codeWellFormed_f3 (op := 0x0E) rfl (lo8 w) (hi8 w), rfl⟩
theorem aslAbsx (w : Word) : Statement (.aslAbsx w) := ⟨codeWellFormed_f3 (op := 0x1E) rfl (lo8 w) (hi8 w), rfl⟩
theorem lsrAcc : Statement .lsrAcc := ⟨codeWellFormed_f1 (op := 0x4A) rfl, rfl⟩
theorem lsrZp (b1 : Byte) : Statement (.lsrZp b1) := ⟨codeWellFormed_f2 (op := 0x46) rfl b1, rfl⟩
theorem lsrZpx (b1 : Byte) : Statement (.lsrZpx b1) := ⟨codeWellFormed_f2 (op := 0x56) rfl b1, rfl⟩
theorem lsrAbs (w : Word) : Statement (.lsrAbs w) := ⟨codeWellFormed_f3 (op := 0x4E) rfl (lo8 w) (hi8 w), rfl⟩
theorem lsrAbsx (w : Word) : Statement (.lsrAbsx w) := ⟨codeWellFormed_f3 (op := 0x5E) rfl (lo8 w) (hi8 w), rfl⟩
theorem rolAcc : Statement .rolAcc := ⟨codeWellFormed_f1 (op := 0x2A) rfl, rfl⟩
theorem rolZp (b1 : Byte) : Statement (.rolZp b1) := ⟨codeWellFormed_f2 (op := 0x26) rfl b1, rfl⟩
theorem rolZpx (b1 : Byte) : Statement (.rolZpx b1) := ⟨codeWellFormed_f2 (op := 0x36) rfl b1, rfl⟩
theorem rolAbs (w : Word) : Statement (.rolAbs w) := ⟨codeWellFormed_f3 (op := 0x2E) rfl (lo8 w) (hi8 w), rfl⟩
theorem rolAbsx (w : Word) : Statement (.rolAbsx w) := ⟨codeWellFormed_f3 (op := 0x3E) rfl (lo8 w) (hi8 w), rfl⟩
theorem rorAcc : Statement .rorAcc := ⟨codeWellFormed_f1 (op := 0x6A) rfl, rfl⟩
theorem rorZp (b1 : Byte) : Statement (.rorZp b1) := ⟨codeWellFormed_f2 (op := 0x66) rfl b1, rfl⟩
theorem rorZpx (b1 : Byte) : Statement (.rorZpx b1) := ⟨codeWellFormed_f2 (op := 0x76) rfl b1, rfl⟩
theorem rorAbs (w : Word) : Statement (.rorAbs w) := ⟨codeWellFormed_f3 (op := 0x6E) rfl (lo8 w) (hi8 w), rfl⟩
theorem rorAbsx (w : Word) : Statement (.rorAbsx w) := ⟨codeWellFormed_f3 (op := 0x7E) rfl (lo8 w) (hi8 w), rfl⟩
theorem cmpImm (b1 : Byte) : Statement (.cmpImm b1) := ⟨codeWellFormed_f2 (op := 0xC9) rfl b1, rfl⟩
theorem cmpZp (b1 : Byte) : Statement (.cmpZp b1) := ⟨codeWellFormed_f2 (op := 0xC5) rfl b1, rfl⟩
theorem cmpZpx (b1 : Byte) : Statement (.cmpZpx b1) := ⟨codeWellFormed_f2 (op := 0xD5) rfl b1, rfl⟩
theorem cmpAbs (w : Word) : Statement (.cmpAbs w) := ⟨codeWellFormed_f3 (op := 0xCD) rfl (lo8 w) (hi8 w), rfl⟩
theorem cmpAbsx (w : Word) : Statement (.cmpAbsx w) := ⟨codeWellFormed_f3 (op := 0xDD) rfl (lo8 w) (hi8 w), rfl⟩
theorem cmpAbsy (w : Word) : Statement (.cmpAbsy w) := ⟨codeWellFormed_f3 (op := 0xD9) rfl (lo8 w) (hi8 w), rfl⟩
theorem cmpIndx (b1 : Byte) : Statement (.cmpIndx b1) := ⟨codeWellFormed_f2 (op := 0xC1) rfl b1, rfl⟩
theorem cmpIndy (b1 : Byte) : Statement (.cmpIndy b1) := ⟨codeWellFormed_f2 (op := 0xD1) rfl b1, rfl⟩
theorem cpxImm (b1 : Byte) : Statement (.cpxImm b1) := ⟨codeWellFormed_f2 (op := 0xE0) rfl b1, rfl⟩
theorem cpxZp (b1 : Byte) : Statement (.cpxZp b1) := ⟨codeWellFormed_f2 (op := 0xE4) rfl b1, rfl⟩
theorem cpxAbs (w : Word) : Statement (.cpxAbs w) := ⟨codeWellFormed_f3 (op := 0xEC) rfl (lo8 w) (hi8 w), rfl⟩
theorem cpyImm (b1 : Byte) : Statement (.cpyImm b1) := ⟨codeWellFormed_f2 (op := 0xC0) rfl b1, rfl⟩
theorem cpyZp (b1 : Byte) : Statement (.cpyZp b1) := ⟨codeWellFormed_f2 (op := 0xC4) rfl b1, rfl⟩
theorem cpyAbs (w : Word) : Statement (.cpyAbs w) := ⟨codeWellFormed_f3 (op := 0xCC) rfl (lo8 w) (hi8 w), rfl⟩
theorem incZp (b1 : Byte) : Statement (.incZp b1) := ⟨codeWellFormed_f2 (op := 0xE6) rfl b1, rfl⟩
theorem incZpx (b1 : Byte) : Statement (.incZpx b1) := ⟨codeWellFormed_f2 (op := 0xF6) rfl b1, rfl⟩
theorem incAbs (w : Word) : Statement (.incAbs w) := ⟨codeWellFormed_f3 (op := 0xEE) rfl (lo8 w) (hi8 w), rfl⟩
theorem incAbsx (w : Word) : Statement (.incAbsx w) := ⟨codeWellFormed_f3 (op := 0xFE) rfl (lo8 w) (hi8 w), rfl⟩
theorem decZp (b1 : Byte) : Statement (.decZp b1) := ⟨codeWellFormed_f2 (op := 0xC6) rfl b1, rfl⟩
theorem decZpx (b1 : Byte) : Statement (.decZpx b1) := ⟨codeWellFormed_f2 (op := 0xD6) rfl b1, rfl⟩
theorem decAbs (w : Word) : Statement (.decAbs w) := ⟨codeWellFormed_f3 (op := 0xCE) rfl (lo8 w) (hi8 w), rfl⟩
theorem decAbsx (w : Word) : Statement (.decAbsx w) := ⟨codeWellFormed_f3 (op := 0xDE) rfl (lo8 w) (hi8 w), rfl⟩
theorem inx : Statement .inx := ⟨codeWellFormed_f1 (op := 0xE8) rfl, rfl⟩
theorem iny : Statement .iny := ⟨codeWellFormed_f1 (op := 0xC8) rfl, rfl⟩
theorem dex : Statement .dex := ⟨codeWellFormed_f1 (op := 0xCA) rfl, rfl⟩
theorem dey : Statement .dey := ⟨codeWellFormed_f1 (op := 0x88) rfl, rfl⟩
theorem ldaImm (b1 : Byte) : Statement (.ldaImm b1) := ⟨codeWellFormed_f2 (op := 0xA9) rfl b1, rfl⟩
theorem ldaZp (b1 : Byte) : Statement (.ldaZp b1) := ⟨codeWellFormed_f2 (op := 0xA5) rfl b1, rfl⟩
theorem ldaZpx (b1 : Byte) : Statement (.ldaZpx b1) := ⟨codeWellFormed_f2 (op := 0xB5) rfl b1, rfl⟩
theorem ldaAbs (w : Word) : Statement (.ldaAbs w) := ⟨codeWellFormed_f3 (op := 0xAD) rfl (lo8 w) (hi8 w), rfl⟩
theorem ldaAbsx (w : Word) : Statement (.ldaAbsx w) := ⟨codeWellFormed_f3 (op := 0xBD) rfl (lo8 w) (hi8 w), rfl⟩
theorem ldaAbsy (w : Word) : Statement (.ldaAbsy w) := ⟨codeWellFormed_f3 (op := 0xB9) rfl (lo8 w) (hi8 w), rfl⟩
theorem ldaIndx (b1 : Byte) : Statement (.ldaIndx b1) := ⟨codeWellFormed_f2 (op := 0xA1) rfl b1, rfl⟩
theorem ldaIndy (b1 : Byte) : Statement (.ldaIndy b1) := ⟨codeWellFormed_f2 (op := 0xB1) rfl b1, rfl⟩
theorem ldxImm (b1 : Byte) : Statement (.ldxImm b1) := ⟨codeWellFormed_f2 (op := 0xA2) rfl b1, rfl⟩
theorem ldxZp (b1 : Byte) : Statement (.ldxZp b1) := ⟨codeWellFormed_f2 (op := 0xA6) rfl b1, rfl⟩
theorem ldxZpy (b1 : Byte) : Statement (.ldxZpy b1) := ⟨codeWellFormed_f2 (op := 0xB6) rfl b1, rfl⟩
theorem ldxAbs (w : Word) : Statement (.ldxAbs w) := ⟨codeWellFormed_f3 (op := 0xAE) rfl (lo8 w) (hi8 w), rfl⟩
theorem ldxAbsy (w : Word) : Statement (.ldxAbsy w) := ⟨codeWellFormed_f3 (op := 0xBE) rfl (lo8 w) (hi8 w), rfl⟩
theorem ldyImm (b1 : Byte) : Statement (.ldyImm b1) := ⟨codeWellFormed_f2 (op := 0xA0) rfl b1, rfl⟩
theorem ldyZp (b1 : Byte) : Statement (.ldyZp b1) := ⟨codeWellFormed_f2 (op := 0xA4) rfl b1, rfl⟩
theorem ldyZpx (b1 : Byte) : Statement (.ldyZpx b1) := ⟨codeWellFormed_f2 (op := 0xB4) rfl b1, rfl⟩
theorem ldyAbs (w : Word) : Statement (.ldyAbs w) := ⟨codeWellFormed_f3 (op := 0xAC) rfl (lo8 w) (hi8 w), rfl⟩
theorem ldyAbsx (w : Word) : Statement (.ldyAbsx w) := ⟨codeWellFormed_f3 (op := 0xBC) rfl (lo8 w) (hi8 w), rfl⟩
theorem staZp (b1 : Byte) : Statement (.staZp b1) := ⟨codeWellFormed_f2 (op := 0x85) rfl b1, rfl⟩
theorem staZpx (b1 : Byte) : Statement (.staZpx b1) := ⟨codeWellFormed_f2 (op := 0x95) rfl b1, rfl⟩
theorem staAbs (w : Word) : Statement (.staAbs w) := ⟨codeWellFormed_f3 (op := 0x8D) rfl (lo8 w) (hi8 w), rfl⟩
theorem staAbsx (w : Word) : Statement (.staAbsx w) := ⟨codeWellFormed_f3 (op := 0x9D) rfl (lo8 w) (hi8 w), rfl⟩
theorem staAbsy (w : Word) : Statement (.staAbsy w) := ⟨codeWellFormed_f3 (op := 0x99) rfl (lo8 w) (hi8 w), rfl⟩
theorem staIndx (b1 : Byte) : Statement (.staIndx b1) := ⟨codeWellFormed_f2 (op := 0x81) rfl b1, rfl⟩
theorem staIndy (b1 : Byte) : Statement (.staIndy b1) := ⟨codeWellFormed_f2 (op := 0x91) rfl b1, rfl⟩
theorem stxZp (b1 : Byte) : Statement (.stxZp b1) := ⟨codeWellFormed_f2 (op := 0x86) rfl b1, rfl⟩
theorem stxZpy (b1 : Byte) : Statement (.stxZpy b1) := ⟨codeWellFormed_f2 (op := 0x96) rfl b1, rfl⟩
theorem stxAbs (w : Word) : Statement (.stxAbs w) := ⟨codeWellFormed_f3 (op := 0x8E) rfl (lo8 w) (hi8 w), rfl⟩
theorem styZp (b1 : Byte) : Statement (.styZp b1) := ⟨codeWellFormed_f2 (op := 0x84) rfl b1, rfl⟩
theorem styZpx (b1 : Byte) : Statement (.styZpx b1) := ⟨codeWellFormed_f2 (op := 0x94) rfl b1, rfl⟩
theorem styAbs (w : Word) : Statement (.styAbs w) := ⟨codeWellFormed_f3 (op := 0x8C) rfl (lo8 w) (hi8 w), rfl⟩
theorem tax : Statement .tax := ⟨codeWellFormed_f1 (op := 0xAA) rfl, rfl⟩
theorem txa : Statement .txa := ⟨codeWellFormed_f1 (op := 0x8A) rfl, rfl⟩
theorem tay : Statement .tay := ⟨codeWellFormed_f1 (op := 0xA8) rfl, rfl⟩
theorem tya : Statement .tya := ⟨codeWellFormed_f1 (op := 0x98) rfl, rfl⟩
theorem tsx : Statement .tsx := ⟨codeWellFormed_f1 (op := 0xBA) rfl, rfl⟩
theorem txs : Statement .txs := ⟨codeWellFormed_f1 (op := 0x9A) rfl, rfl⟩
theorem pha : Statement .pha := ⟨codeWellFormed_f1 (op := 0x48) rfl, rfl⟩
theorem pla : Statement .pla := ⟨codeWellFormed_f1 (op := 0x68) rfl, rfl⟩
theorem php : Statement .php := ⟨codeWellFormed_f1 (op := 0x08) rfl, rfl⟩
theorem plp : Statement .plp := ⟨codeWellFormed_f1 (op := 0x28) rfl, rfl⟩
theorem jmpAbs (w : Word) : Statement (.jmpAbs w) := ⟨codeWellFormed_f3 (op := 0x4C) rfl (lo8 w) (hi8 w), rfl⟩
theorem jmpInd (w : Word) : Statement (.jmpInd w) := ⟨codeWellFormed_f3 (op := 0x6C) rfl (lo8 w) (hi8 w), rfl⟩
theorem jsr (w : Word) : Statement (.jsr w) := ⟨codeWellFormed_f3 (op := 0x20) rfl (lo8 w) (hi8 w), rfl⟩
theorem rts : Statement .rts := ⟨codeWellFormed_f1 (op := 0x60) rfl, rfl⟩
theorem bcc (b1 : Byte) : Statement (.bcc b1) := ⟨codeWellFormed_f2 (op := 0x90) rfl b1, rfl⟩
theorem bcs (b1 : Byte) : Statement (.bcs b1) := ⟨codeWellFormed_f2 (op := 0xB0) rfl b1, rfl⟩
theorem beq (b1 : Byte) : Statement (.beq b1) := ⟨codeWellFormed_f2 (op := 0xF0) rfl b1, rfl⟩
theorem bne (b1 : Byte) : Statement (.bne b1) := ⟨codeWellFormed_f2 (op := 0xD0) rfl b1, rfl⟩
theorem bmi (b1 : Byte) : Statement (.bmi b1) := ⟨codeWellFormed_f2 (op := 0x30) rfl b1, rfl⟩
theorem bpl (b1 : Byte) : Statement (.bpl b1) := ⟨codeWellFormed_f2 (op := 0x10) rfl b1, rfl⟩
theorem bvc (b1 : Byte) : Statement (.bvc b1) := ⟨codeWellFormed_f2 (op := 0x50) rfl b1, rfl⟩
theorem bvs (b1 : Byte) : Statement (.bvs b1) := ⟨codeWellFormed_f2 (op := 0x70) rfl b1, rfl⟩
theorem brk : Statement .brk := ⟨codeWellFormed_f1 (op := 0x00) rfl, rfl⟩
theorem rti : Statement .rti := ⟨codeWellFormed_f1 (op := 0x40) rfl, rfl⟩
theorem clc : Statement .clc := ⟨codeWellFormed_f1 (op := 0x18) rfl, rfl⟩
theorem sec : Statement .sec := ⟨codeWellFormed_f1 (op := 0x38) rfl, rfl⟩
theorem cli : Statement .cli := ⟨codeWellFormed_f1 (op := 0x58) rfl, rfl⟩
theorem sei : Statement .sei := ⟨codeWellFormed_f1 (op := 0x78) rfl, rfl⟩
theorem clv : Statement .clv := ⟨codeWellFormed_f1 (op := 0xB8) rfl, rfl⟩
theorem cld : Statement .cld := ⟨codeWellFormed_f1 (op := 0xD8) rfl, rfl⟩
theorem sed : Statement .sed := ⟨codeWellFormed_f1 (op := 0xF8) rfl, rfl⟩
theorem nop : Statement .nop := ⟨codeWellFormed_f1 (op := 0xEA) rfl, rfl⟩

end Sys2Proof.Laws.WellFormedEncoding
end

