-- ==== Sys2Proof/Tests/Slice0.lean ====
section
/-!
SUPPORT. The model's own tests: the checks of WellFormed.lean on ill-formed bytes, every constructor's decoding from the
byte the spec prints for it, single steps from the spec's own test vectors (spec/95_test_vectors.md; no expected value was
taken from the model), and one witness for the hypotheses of each statement that has any.
-/

namespace Sys2Proof.Tests

open Sys2Proof.Machine

/-! ### WellFormed: each check refuses an ill-formed string of bytes -/

theorem test_no_opcode_refused : hasOpcode [] = false ∧ codeWellFormed [] = false := ⟨rfl, rfl⟩

/-- `02` is unassigned (R57). -/
theorem test_unassigned_refused : opcodeAssigned [0x02] = false ∧ codeWellFormed [0x02] = false := ⟨rfl, rfl⟩

/-- LDA immediate without its operand byte, LDA absolute without its high byte (R50). -/
theorem test_truncated_refused :
    operandsComplete [0xA9] = false ∧ codeWellFormed [0xA9] = false ∧
    operandsComplete [0xAD, 0x34] = false ∧ codeWellFormed [0xAD, 0x34] = false := ⟨rfl, rfl, rfl, rfl⟩

/-- NOP is one byte long (R52). -/
theorem test_left_over_refused : nothingLeftOver [0xEA, 0x00] = false ∧ codeWellFormed [0xEA, 0x00] = false :=
  ⟨rfl, rfl⟩

theorem test_well_formed_accepted : codeWellFormed [0xAD, 0x34, 0x12] = true ∧ (Instr.ldaAbs 0x1234).wellFormed = true :=
  ⟨rfl, rfl⟩

/-! ### Decoding: rejection by name, one word per family bit by bit, and all 151 opcodes of R56's table -/

theorem test_decode_rejects :
    decode [] = .error .noBytes ∧ decode [0x02, 0xFF, 0x00] = .error (.unassigned 0x02) ∧
    decode [0xFF] = .error (.unassigned 0xFF) ∧ decode [0xA9] = .error (.truncated 0xA9) ∧
    decode [0x6C, 0xFF] = .error (.truncated 0x6C) := ⟨rfl, rfl, rfl, rfl, rfl⟩

/-- ADC immediate, 69. -/
theorem test_bits_arithmetic : decode [0b01101001#8, 0b01010000#8] = .ok (.adcImm 0x50, []) := rfl

/-- BIT absolute, 2C. -/
theorem test_bits_logical : decode [0b00101100#8, 0b00000000#8, 0b00000011#8] = .ok (.bitAbs 0x0300, []) := rfl

/-- ROL zero page indexed by X, 36. -/
theorem test_bits_shifts : decode [0b00110110#8, 0b11110000#8] = .ok (.rolZpx 0xF0, []) := rfl

/-- CPY immediate, C0. -/
theorem test_bits_compares : decode [0b11000000#8, 0b01111111#8] = .ok (.cpyImm 0x7F, []) := rfl

/-- STA (Indirect),Y, 91. -/
theorem test_bits_stores : decode [0b10010001#8, 0b00100000#8] = .ok (.staIndy 0x20, []) := rfl

/-- TXS, 9A. -/
theorem test_bits_transfers : decode [0b10011010#8] = .ok (.txs, []) := rfl

/-- JMP indirect, 6C. -/
theorem test_bits_control : decode [0b01101100#8, 0b11111111#8, 0b00000011#8] = .ok (.jmpInd 0x03FF, []) := rfl

/-- SED, F8. -/
theorem test_bits_flags : decode [0b11111000#8] = .ok (.sed, []) := rfl

theorem test_decode_adc :
    decode [0x69, 0x5A] = .ok (.adcImm 0x5A, []) ∧
    decode [0x65, 0x5A] = .ok (.adcZp 0x5A, []) ∧
    decode [0x75, 0x5A] = .ok (.adcZpx 0x5A, []) ∧
    decode [0x6D, 0x34, 0x12] = .ok (.adcAbs 0x1234, []) ∧
    decode [0x7D, 0x34, 0x12] = .ok (.adcAbsx 0x1234, []) ∧
    decode [0x79, 0x34, 0x12] = .ok (.adcAbsy 0x1234, []) ∧
    decode [0x61, 0x5A] = .ok (.adcIndx 0x5A, []) ∧
    decode [0x71, 0x5A] = .ok (.adcIndy 0x5A, []) :=
  ⟨rfl, rfl, rfl, rfl, rfl, rfl, rfl, rfl⟩

theorem test_decode_sbc :
    decode [0xE9, 0x5A] = .ok (.sbcImm 0x5A, []) ∧
    decode [0xE5, 0x5A] = .ok (.sbcZp 0x5A, []) ∧
    decode [0xF5, 0x5A] = .ok (.sbcZpx 0x5A, []) ∧
    decode [0xED, 0x34, 0x12] = .ok (.sbcAbs 0x1234, []) ∧
    decode [0xFD, 0x34, 0x12] = .ok (.sbcAbsx 0x1234, []) ∧
    decode [0xF9, 0x34, 0x12] = .ok (.sbcAbsy 0x1234, []) ∧
    decode [0xE1, 0x5A] = .ok (.sbcIndx 0x5A, []) ∧
    decode [0xF1, 0x5A] = .ok (.sbcIndy 0x5A, []) :=
  ⟨rfl, rfl, rfl, rfl, rfl, rfl, rfl, rfl⟩

theorem test_decode_and :
    decode [0x29, 0x5A] = .ok (.andImm 0x5A, []) ∧
    decode [0x25, 0x5A] = .ok (.andZp 0x5A, []) ∧
    decode [0x35, 0x5A] = .ok (.andZpx 0x5A, []) ∧
    decode [0x2D, 0x34, 0x12] = .ok (.andAbs 0x1234, []) ∧
    decode [0x3D, 0x34, 0x12] = .ok (.andAbsx 0x1234, []) ∧
    decode [0x39, 0x34, 0x12] = .ok (.andAbsy 0x1234, []) ∧
    decode [0x21, 0x5A] = .ok (.andIndx 0x5A, []) ∧
    decode [0x31, 0x5A] = .ok (.andIndy 0x5A, []) :=
  ⟨rfl, rfl, rfl, rfl, rfl, rfl, rfl, rfl⟩

theorem test_decode_ora :
    decode [0x09, 0x5A] = .ok (.oraImm 0x5A, []) ∧
    decode [0x05, 0x5A] = .ok (.oraZp 0x5A, []) ∧
    decode [0x15, 0x5A] = .ok (.oraZpx 0x5A, []) ∧
    decode [0x0D, 0x34, 0x12] = .ok (.oraAbs 0x1234, []) ∧
    decode [0x1D, 0x34, 0x12] = .ok (.oraAbsx 0x1234, []) ∧
    decode [0x19, 0x34, 0x12] = .ok (.oraAbsy 0x1234, []) ∧
    decode [0x01, 0x5A] = .ok (.oraIndx 0x5A, []) ∧
    decode [0x11, 0x5A] = .ok (.oraIndy 0x5A, []) :=
  ⟨rfl, rfl, rfl, rfl, rfl, rfl, rfl, rfl⟩

theorem test_decode_eor :
    decode [0x49, 0x5A] = .ok (.eorImm 0x5A, []) ∧
    decode [0x45, 0x5A] = .ok (.eorZp 0x5A, []) ∧
    decode [0x55, 0x5A] = .ok (.eorZpx 0x5A, []) ∧
    decode [0x4D, 0x34, 0x12] = .ok (.eorAbs 0x1234, []) ∧
    decode [0x5D, 0x34, 0x12] = .ok (.eorAbsx 0x1234, []) ∧
    decode [0x59, 0x34, 0x12] = .ok (.eorAbsy 0x1234, []) ∧
    decode [0x41, 0x5A] = .ok (.eorIndx 0x5A, []) ∧
    decode [0x51, 0x5A] = .ok (.eorIndy 0x5A, []) :=
  ⟨rfl, rfl, rfl, rfl, rfl, rfl, rfl, rfl⟩

theorem test_decode_bit :
    decode [0x24, 0x5A] = .ok (.bitZp 0x5A, []) ∧
    decode [0x2C, 0x34, 0x12] = .ok (.bitAbs 0x1234, []) :=
  ⟨rfl, rfl⟩

theorem test_decode_asl :
    decode [0x0A] = .ok (.aslAcc, []) ∧
    decode [0x06, 0x5A] = .ok (.aslZp 0x5A, []) ∧
    decode [0x16, 0x5A] = .ok (.aslZpx 0x5A, []) ∧
    decode [0x0E, 0x34, 0x12] = .ok (.aslAbs 0x1234, []) ∧
    decode [0x1E, 0x34, 0x12] = .ok (.aslAbsx 0x1234, []) :=
  ⟨rfl, rfl, rfl, rfl, rfl⟩

theorem test_decode_lsr :
    decode [0x4A] = .ok (.lsrAcc, []) ∧
    decode [0x46, 0x5A] = .ok (.lsrZp 0x5A, []) ∧
    decode [0x56, 0x5A] = .ok (.lsrZpx 0x5A, []) ∧
    decode [0x4E, 0x34, 0x12] = .ok (.lsrAbs 0x1234, []) ∧
    decode [0x5E, 0x34, 0x12] = .ok (.lsrAbsx 0x1234, []) :=
  ⟨rfl, rfl, rfl, rfl, rfl⟩

theorem test_decode_rol :
    decode [0x2A] = .ok (.rolAcc, []) ∧
    decode [0x26, 0x5A] = .ok (.rolZp 0x5A, []) ∧
    decode [0x36, 0x5A] = .ok (.rolZpx 0x5A, []) ∧
    decode [0x2E, 0x34, 0x12] = .ok (.rolAbs 0x1234, []) ∧
    decode [0x3E, 0x34, 0x12] = .ok (.rolAbsx 0x1234, []) :=
  ⟨rfl, rfl, rfl, rfl, rfl⟩

theorem test_decode_ror :
    decode [0x6A] = .ok (.rorAcc, []) ∧
    decode [0x66, 0x5A] = .ok (.rorZp 0x5A, []) ∧
    decode [0x76, 0x5A] = .ok (.rorZpx 0x5A, []) ∧
    decode [0x6E, 0x34, 0x12] = .ok (.rorAbs 0x1234, []) ∧
    decode [0x7E, 0x34, 0x12] = .ok (.rorAbsx 0x1234, []) :=
  ⟨rfl, rfl, rfl, rfl, rfl⟩

theorem test_decode_cmp :
    decode [0xC9, 0x5A] = .ok (.cmpImm 0x5A, []) ∧
    decode [0xC5, 0x5A] = .ok (.cmpZp 0x5A, []) ∧
    decode [0xD5, 0x5A] = .ok (.cmpZpx 0x5A, []) ∧
    decode [0xCD, 0x34, 0x12] = .ok (.cmpAbs 0x1234, []) ∧
    decode [0xDD, 0x34, 0x12] = .ok (.cmpAbsx 0x1234, []) ∧
    decode [0xD9, 0x34, 0x12] = .ok (.cmpAbsy 0x1234, []) ∧
    decode [0xC1, 0x5A] = .ok (.cmpIndx 0x5A, []) ∧
    decode [0xD1, 0x5A] = .ok (.cmpIndy 0x5A, []) :=
  ⟨rfl, rfl, rfl, rfl, rfl, rfl, rfl, rfl⟩

theorem test_decode_cpx :
    decode [0xE0, 0x5A] = .ok (.cpxImm 0x5A, []) ∧
    decode [0xE4, 0x5A] = .ok (.cpxZp 0x5A, []) ∧
    decode [0xEC, 0x34, 0x12] = .ok (.cpxAbs 0x1234, []) :=
  ⟨rfl, rfl, rfl⟩

theorem test_decode_cpy :
    decode [0xC0, 0x5A] = .ok (.cpyImm 0x5A, []) ∧
    decode [0xC4, 0x5A] = .ok (.cpyZp 0x5A, []) ∧
    decode [0xCC, 0x34, 0x12] = .ok (.cpyAbs 0x1234, []) :=
  ⟨rfl, rfl, rfl⟩

theorem test_decode_inc :
    decode [0xE6, 0x5A] = .ok (.incZp 0x5A, []) ∧
    decode [0xF6, 0x5A] = .ok (.incZpx 0x5A, []) ∧
    decode [0xEE, 0x34, 0x12] = .ok (.incAbs 0x1234, []) ∧
    decode [0xFE, 0x34, 0x12] = .ok (.incAbsx 0x1234, []) :=
  ⟨rfl, rfl, rfl, rfl⟩

theorem test_decode_dec :
    decode [0xC6, 0x5A] = .ok (.decZp 0x5A, []) ∧
    decode [0xD6, 0x5A] = .ok (.decZpx 0x5A, []) ∧
    decode [0xCE, 0x34, 0x12] = .ok (.decAbs 0x1234, []) ∧
    decode [0xDE, 0x34, 0x12] = .ok (.decAbsx 0x1234, []) :=
  ⟨rfl, rfl, rfl, rfl⟩

theorem test_decode_inx :
    decode [0xE8] = .ok (.inx, []) :=
  rfl

theorem test_decode_iny :
    decode [0xC8] = .ok (.iny, []) :=
  rfl

theorem test_decode_dex :
    decode [0xCA] = .ok (.dex, []) :=
  rfl

theorem test_decode_dey :
    decode [0x88] = .ok (.dey, []) :=
  rfl

theorem test_decode_lda :
    decode [0xA9, 0x5A] = .ok (.ldaImm 0x5A, []) ∧
    decode [0xA5, 0x5A] = .ok (.ldaZp 0x5A, []) ∧
    decode [0xB5, 0x5A] = .ok (.ldaZpx 0x5A, []) ∧
    decode [0xAD, 0x34, 0x12] = .ok (.ldaAbs 0x1234, []) ∧
    decode [0xBD, 0x34, 0x12] = .ok (.ldaAbsx 0x1234, []) ∧
    decode [0xB9, 0x34, 0x12] = .ok (.ldaAbsy 0x1234, []) ∧
    decode [0xA1, 0x5A] = .ok (.ldaIndx 0x5A, []) ∧
    decode [0xB1, 0x5A] = .ok (.ldaIndy 0x5A, []) :=
  ⟨rfl, rfl, rfl, rfl, rfl, rfl, rfl, rfl⟩

theorem test_decode_ldx :
    decode [0xA2, 0x5A] = .ok (.ldxImm 0x5A, []) ∧
    decode [0xA6, 0x5A] = .ok (.ldxZp 0x5A, []) ∧
    decode [0xB6, 0x5A] = .ok (.ldxZpy 0x5A, []) ∧
    decode [0xAE, 0x34, 0x12] = .ok (.ldxAbs 0x1234, []) ∧
    decode [0xBE, 0x34, 0x12] = .ok (.ldxAbsy 0x1234, []) :=
  ⟨rfl, rfl, rfl, rfl, rfl⟩

theorem test_decode_ldy :
    decode [0xA0, 0x5A] = .ok (.ldyImm 0x5A, []) ∧
    decode [0xA4, 0x5A] = .ok (.ldyZp 0x5A, []) ∧
    decode [0xB4, 0x5A] = .ok (.ldyZpx 0x5A, []) ∧
    decode [0xAC, 0x34, 0x12] = .ok (.ldyAbs 0x1234, []) ∧
    decode [0xBC, 0x34, 0x12] = .ok (.ldyAbsx 0x1234, []) :=
  ⟨rfl, rfl, rfl, rfl, rfl⟩

theorem test_decode_sta :
    decode [0x85, 0x5A] = .ok (.staZp 0x5A, []) ∧
    decode [0x95, 0x5A] = .ok (.staZpx 0x5A, []) ∧
    decode [0x8D, 0x34, 0x12] = .ok (.staAbs 0x1234, []) ∧
    decode [0x9D, 0x34, 0x12] = .ok (.staAbsx 0x1234, []) ∧
    decode [0x99, 0x34, 0x12] = .ok (.staAbsy 0x1234, []) ∧
    decode [0x81, 0x5A] = .ok (.staIndx 0x5A, []) ∧
    decode [0x91, 0x5A] = .ok (.staIndy 0x5A, []) :=
  ⟨rfl, rfl, rfl, rfl, rfl, rfl, rfl⟩

theorem test_decode_stx :
    decode [0x86, 0x5A] = .ok (.stxZp 0x5A, []) ∧
    decode [0x96, 0x5A] = .ok (.stxZpy 0x5A, []) ∧
    decode [0x8E, 0x34, 0x12] = .ok (.stxAbs 0x1234, []) :=
  ⟨rfl, rfl, rfl⟩

theorem test_decode_sty :
    decode [0x84, 0x5A] = .ok (.styZp 0x5A, []) ∧
    decode [0x94, 0x5A] = .ok (.styZpx 0x5A, []) ∧
    decode [0x8C, 0x34, 0x12] = .ok (.styAbs 0x1234, []) :=
  ⟨rfl, rfl, rfl⟩

theorem test_decode_tax :
    decode [0xAA] = .ok (.tax, []) :=
  rfl

theorem test_decode_txa :
    decode [0x8A] = .ok (.txa, []) :=
  rfl

theorem test_decode_tay :
    decode [0xA8] = .ok (.tay, []) :=
  rfl

theorem test_decode_tya :
    decode [0x98] = .ok (.tya, []) :=
  rfl

theorem test_decode_tsx :
    decode [0xBA] = .ok (.tsx, []) :=
  rfl

theorem test_decode_txs :
    decode [0x9A] = .ok (.txs, []) :=
  rfl

theorem test_decode_pha :
    decode [0x48] = .ok (.pha, []) :=
  rfl

theorem test_decode_pla :
    decode [0x68] = .ok (.pla, []) :=
  rfl

theorem test_decode_php :
    decode [0x08] = .ok (.php, []) :=
  rfl

theorem test_decode_plp :
    decode [0x28] = .ok (.plp, []) :=
  rfl

theorem test_decode_jmp :
    decode [0x4C, 0x34, 0x12] = .ok (.jmpAbs 0x1234, []) ∧
    decode [0x6C, 0x34, 0x12] = .ok (.jmpInd 0x1234, []) :=
  ⟨rfl, rfl⟩

theorem test_decode_jsr :
    decode [0x20, 0x34, 0x12] = .ok (.jsr 0x1234, []) :=
  rfl

theorem test_decode_rts :
    decode [0x60] = .ok (.rts, []) :=
  rfl

theorem test_decode_bcc :
    decode [0x90, 0x5A] = .ok (.bcc 0x5A, []) :=
  rfl

theorem test_decode_bcs :
    decode [0xB0, 0x5A] = .ok (.bcs 0x5A, []) :=
  rfl

theorem test_decode_beq :
    decode [0xF0, 0x5A] = .ok (.beq 0x5A, []) :=
  rfl

theorem test_decode_bne :
    decode [0xD0, 0x5A] = .ok (.bne 0x5A, []) :=
  rfl

theorem test_decode_bmi :
    decode [0x30, 0x5A] = .ok (.bmi 0x5A, []) :=
  rfl

theorem test_decode_bpl :
    decode [0x10, 0x5A] = .ok (.bpl 0x5A, []) :=
  rfl

theorem test_decode_bvc :
    decode [0x50, 0x5A] = .ok (.bvc 0x5A, []) :=
  rfl

theorem test_decode_bvs :
    decode [0x70, 0x5A] = .ok (.bvs 0x5A, []) :=
  rfl

theorem test_decode_brk :
    decode [0x00] = .ok (.brk, []) :=
  rfl

theorem test_decode_rti :
    decode [0x40] = .ok (.rti, []) :=
  rfl

theorem test_decode_clc :
    decode [0x18] = .ok (.clc, []) :=
  rfl

theorem test_decode_sec :
    decode [0x38] = .ok (.sec, []) :=
  rfl

theorem test_decode_cli :
    decode [0x58] = .ok (.cli, []) :=
  rfl

theorem test_decode_sei :
    decode [0x78] = .ok (.sei, []) :=
  rfl

theorem test_decode_clv :
    decode [0xB8] = .ok (.clv, []) :=
  rfl

theorem test_decode_cld :
    decode [0xD8] = .ok (.cld, []) :=
  rfl

theorem test_decode_sed :
    decode [0xF8] = .ok (.sed, []) :=
  rfl

theorem test_decode_nop :
    decode [0xEA] = .ok (.nop, []) :=
  rfl

/-! ### The host's table words -/

theorem test_table_words :
    decodeTableWord 8 0xEA = some .nop ∧ decodeTableWord 16 0x69A9 = some (.ldaImm 0x69) ∧
    decodeTableWord 24 0x12344C = some (.jmpAbs 0x1234) ∧ decodeTableWord 8 0x02 = none := ⟨rfl, rfl, rfl, rfl⟩

theorem test_table_word_upper_bits_are_zero : decodeTableWord 8 0xFFFFA9 = some (.ldaImm 0x00) := rfl

theorem test_fetch_word_runs_first : ∃ t, step (State.reset.withFetchWord 16 0x69A9) = .next t ∧ t.a = 0x69 ∧ t.pc = 0x0002 :=
  ⟨_, rfl, rfl, rfl⟩

/-! ### One step, from the spec's vectors -/

/-- The defaults of a vector (spec/95_test_vectors.md section 0). -/
def start : State := { a := 0, x := 0, y := 0, sp := 0xFD, pc := 0x0200, p := 0, mem := [] }

/-- Put the listed bytes in memory, and the instruction's bytes from `PC` on. -/
def placed (s : State) (bytes : List (Word × Byte)) (code : List Byte) : State :=
  bytes.foldl (fun s c => s.writeByte c.1 c.2) (storeBytes s.pc code s)

/-- One step ends in a next state that passes the check. -/
def ends (s : State) (bytes : List (Word × Byte)) (code : List Byte) (check : State → Bool) : Bool :=
  match step (placed s bytes code) with
  | .next t => check t
  | _ => false

/-! Section 2.1 of spec/95_test_vectors.md. -/

/-- ADC #$FF, carry in 1. -/
theorem test_adc_imm : ends { start with a := 0xFF, p := 0x01 } [] [0x69, 0xFF]
    (fun t => t.p == 0x81 && t.pc == 0x0202) = true := by decide

/-- ADC $02FF,Y (index crosses a page). -/
theorem test_adc_absy : ends { start with a := 0x10, y := 0x02 } [(0x0301, 0x22)] [0x79, 0xFF, 0x02]
    (fun t => t.a == 0x32 && t.p == 0x00 && t.pc == 0x0203) = true := by decide

/-- SBC #$F0, carry in 1. -/
theorem test_sbc_imm : ends { start with a := 0x50, p := 0x01 } [] [0xE9, 0xF0]
    (fun t => t.a == 0x60 && t.p == 0x00 && t.pc == 0x0202) = true := by decide

/-- SBC ($20,X). -/
theorem test_sbc_indx : ends { start with a := 0x05, x := 0x04, p := 0x01 } [(0x0024, 0x00), (0x0025, 0x03), (0x0300, 0x03)] [0xE1, 0x20]
    (fun t => t.a == 0x02 && t.p == 0x01 && t.pc == 0x0202) = true := by decide

/-! Section 2.2 of spec/95_test_vectors.md. -/

/-- AND #$0F. -/
theorem test_and_imm : ends { start with a := 0xF0, p := 0xC1 } [] [0x29, 0x0F]
    (fun t => t.a == 0x00 && t.p == 0x43 && t.pc == 0x0202) = true := by decide

/-- AND $0300,X. -/
theorem test_and_absx : ends { start with a := 0xFF, x := 0x10 } [(0x0310, 0x3C)] [0x3D, 0x00, 0x03]
    (fun t => t.a == 0x3C && t.p == 0x00 && t.pc == 0x0203) = true := by decide

/-- ORA #$80. -/
theorem test_ora_imm : ends { start with a := 0x01 } [] [0x09, 0x80]
    (fun t => t.a == 0x81 && t.p == 0x80 && t.pc == 0x0202) = true := by decide

/-- ORA ($20),Y. -/
theorem test_ora_indy : ends { start with a := 0x01, y := 0x01 } [(0x0020, 0xFF), (0x0021, 0x02), (0x0300, 0x10)] [0x11, 0x20]
    (fun t => t.a == 0x11 && t.p == 0x00 && t.pc == 0x0202) = true := by decide

/-- EOR #$FF. -/
theorem test_eor_imm : ends { start with a := 0xFF } [] [0x49, 0xFF]
    (fun t => t.a == 0x00 && t.p == 0x02 && t.pc == 0x0202) = true := by decide

/-- EOR $10,X. -/
theorem test_eor_zpx : ends { start with a := 0xAA, x := 0xF0 } [(0x0000, 0x55)] [0x55, 0x10]
    (fun t => t.a == 0xFF && t.p == 0x80 && t.pc == 0x0202) = true := by decide

/-- BIT $10 (C, I, D kept). -/
theorem test_bit_zp : ends { start with p := 0x0D } [(0x0010, 0x80)] [0x24, 0x10]
    (fun t => t.a == 0x00 && t.p == 0x8F && t.pc == 0x0202) = true := by decide

/-- BIT $0300. -/
theorem test_bit_abs : ends { start with a := 0x40 } [(0x0300, 0x40)] [0x2C, 0x00, 0x03]
    (fun t => t.a == 0x40 && t.p == 0x40 && t.pc == 0x0203) = true := by decide

/-! Section 2.3 of spec/95_test_vectors.md. -/

/-- ASL A. -/
theorem test_asl_acc : ends { start with a := 0x81 } [] [0x0A]
    (fun t => t.a == 0x02 && t.p == 0x01 && t.pc == 0x0201) = true := by decide

/-- ASL $10. -/
theorem test_asl_zp : ends start [(0x0010, 0x80)] [0x06, 0x10]
    (fun t => t.p == 0x03 && t.pc == 0x0202 && t.readByte 0x0010 == 0x00) = true := by decide

/-- LSR A. -/
theorem test_lsr_acc : ends { start with a := 0x01, p := 0x80 } [] [0x4A]
    (fun t => t.a == 0x00 && t.p == 0x03 && t.pc == 0x0201) = true := by decide

/-- LSR $0300. -/
theorem test_lsr_abs : ends start [(0x0300, 0x03)] [0x4E, 0x00, 0x03]
    (fun t => t.p == 0x01 && t.pc == 0x0203 && t.readByte 0x0300 == 0x01) = true := by decide

/-- ROL A. -/
theorem test_rol_acc : ends { start with a := 0x80, p := 0x01 } [] [0x2A]
    (fun t => t.a == 0x01 && t.p == 0x01 && t.pc == 0x0201) = true := by decide

/-- ROL $F0,X. -/
theorem test_rol_zpx : ends { start with x := 0x20, p := 0x01 } [(0x0010, 0x40)] [0x36, 0xF0]
    (fun t => t.p == 0x80 && t.pc == 0x0202 && t.readByte 0x0010 == 0x81) = true := by decide

/-- ROR A. -/
theorem test_ror_acc : ends { start with a := 0x01, p := 0x01 } [] [0x6A]
    (fun t => t.a == 0x80 && t.p == 0x81 && t.pc == 0x0201) = true := by decide

/-- ROR $02FF,X. -/
theorem test_ror_absx : ends { start with x := 0x01, p := 0x01 } [(0x0300, 0x02)] [0x7E, 0xFF, 0x02]
    (fun t => t.p == 0x80 && t.pc == 0x0203 && t.readByte 0x0300 == 0x81) = true := by decide

/-! Section 2.4 of spec/95_test_vectors.md. -/

/-- CMP #$41 (less; V kept). -/
theorem test_cmp_imm : ends { start with a := 0x40, p := 0x40 } [] [0xC9, 0x41]
    (fun t => t.a == 0x40 && t.p == 0xC0 && t.pc == 0x0202) = true := by decide

/-- CMP ($20),Y. -/
theorem test_cmp_indy : ends { start with a := 0x10, y := 0x02 } [(0x0020, 0x00), (0x0021, 0x03), (0x0302, 0x10)] [0xD1, 0x20]
    (fun t => t.a == 0x10 && t.p == 0x03 && t.pc == 0x0202) = true := by decide

/-- CPX $10. -/
theorem test_cpx_zp : ends { start with x := 0x10 } [(0x0010, 0x0F)] [0xE4, 0x10]
    (fun t => t.p == 0x01 && t.pc == 0x0202) = true := by decide

/-- CPX #$10. -/
theorem test_cpx_imm : ends { start with x := 0x0F } [] [0xE0, 0x10]
    (fun t => t.p == 0x80 && t.pc == 0x0202) = true := by decide

/-- CPY $0300. -/
theorem test_cpy_abs : ends start [(0x0300, 0x01)] [0xCC, 0x00, 0x03]
    (fun t => t.p == 0x80 && t.pc == 0x0203) = true := by decide

/-- CPY #$7F. -/
theorem test_cpy_imm : ends { start with y := 0xFF } [] [0xC0, 0x7F]
    (fun t => t.p == 0x81 && t.pc == 0x0202) = true := by decide

/-! Section 2.5 of spec/95_test_vectors.md. -/

/-- INC $00 (carry kept). -/
theorem test_inc_zp : ends { start with p := 0x01 } [(0x0000, 0xFF)] [0xE6, 0x00]
    (fun t => t.p == 0x03 && t.pc == 0x0202 && t.readByte 0x0000 == 0x00) = true := by decide

/-- INC $0300. -/
theorem test_inc_abs : ends start [(0x0300, 0x7F)] [0xEE, 0x00, 0x03]
    (fun t => t.p == 0x80 && t.pc == 0x0203 && t.readByte 0x0300 == 0x80) = true := by decide

/-- DEC $10. -/
theorem test_dec_zp : ends start [(0x0010, 0x00)] [0xC6, 0x10]
    (fun t => t.p == 0x80 && t.pc == 0x0202 && t.readByte 0x0010 == 0xFF) = true := by decide

/-- DEC $0F,X. -/
theorem test_dec_zpx : ends { start with x := 0x01 } [(0x0010, 0x01)] [0xD6, 0x0F]
    (fun t => t.p == 0x02 && t.pc == 0x0202 && t.readByte 0x0010 == 0x00) = true := by decide

/-- INX. -/
theorem test_inx_imp : ends { start with x := 0xFF } [] [0xE8]
    (fun t => t.x == 0x00 && t.p == 0x02 && t.pc == 0x0201) = true := by decide

/-- INX. -/
theorem test_inx_imp_2 : ends { start with x := 0x7F } [] [0xE8]
    (fun t => t.x == 0x80 && t.p == 0x80 && t.pc == 0x0201) = true := by decide

/-- INY. -/
theorem test_iny_imp : ends start [] [0xC8]
    (fun t => t.y == 0x01 && t.p == 0x00 && t.pc == 0x0201) = true := by decide

/-- INY. -/
theorem test_iny_imp_2 : ends { start with y := 0xFF, p := 0x41 } [] [0xC8]
    (fun t => t.y == 0x00 && t.p == 0x43 && t.pc == 0x0201) = true := by decide

/-- DEX. -/
theorem test_dex_imp : ends start [] [0xCA]
    (fun t => t.x == 0xFF && t.p == 0x80 && t.pc == 0x0201) = true := by decide

/-- DEX. -/
theorem test_dex_imp_2 : ends { start with x := 0x01 } [] [0xCA]
    (fun t => t.x == 0x00 && t.p == 0x02 && t.pc == 0x0201) = true := by decide

/-- DEY. -/
theorem test_dey_imp : ends { start with y := 0x80 } [] [0x88]
    (fun t => t.y == 0x7F && t.p == 0x00 && t.pc == 0x0201) = true := by decide

/-- DEY. -/
theorem test_dey_imp_2 : ends { start with p := 0x01 } [] [0x88]
    (fun t => t.y == 0xFF && t.p == 0x81 && t.pc == 0x0201) = true := by decide

/-! Section 2.6 of spec/95_test_vectors.md. -/

/-- LDA #$80. -/
theorem test_lda_imm : ends start [] [0xA9, 0x80]
    (fun t => t.a == 0x80 && t.p == 0x80 && t.pc == 0x0202) = true := by decide

/-- LDA $10. -/
theorem test_lda_zp : ends { start with p := 0x80 } [(0x0010, 0x00)] [0xA5, 0x10]
    (fun t => t.p == 0x02 && t.pc == 0x0202) = true := by decide

/-- LDA $FF,X (zero-page wrap: address 0x0001). -/
theorem test_lda_zpx : ends { start with x := 0x02 } [(0x0001, 0x5A), (0x0101, 0xA5)] [0xB5, 0xFF]
    (fun t => t.a == 0x5A && t.p == 0x00 && t.pc == 0x0202) = true := by decide

/-- LDA $02FF,X (crosses a page). -/
theorem test_lda_absx : ends { start with x := 0x01 } [(0x0300, 0x77)] [0xBD, 0xFF, 0x02]
    (fun t => t.a == 0x77 && t.p == 0x00 && t.pc == 0x0203) = true := by decide

/-- LDA $FFFF,Y (wraps to 0x0001). -/
theorem test_lda_absy : ends { start with y := 0x02 } [(0x0001, 0x33)] [0xB9, 0xFF, 0xFF]
    (fun t => t.a == 0x33 && t.p == 0x00 && t.pc == 0x0203) = true := by decide

/-- LDA ($20,X). -/
theorem test_lda_indx : ends { start with x := 0x04 } [(0x0024, 0x74), (0x0025, 0x20), (0x2074, 0x99)] [0xA1, 0x20]
    (fun t => t.a == 0x99 && t.p == 0x80 && t.pc == 0x0202) = true := by decide

/-- LDA ($FF),Y (pointer wraps in zero page; sum wraps to 0x0000). -/
theorem test_lda_indy : ends { start with y := 0x01 } [(0x00FF, 0xFF), (0x0000, 0xFF), (0x0100, 0x12)] [0xB1, 0xFF]
    (fun t => t.a == 0xFF && t.p == 0x80 && t.pc == 0x0202) = true := by decide

/-- LDA $0010 fetched across the top of memory. -/
theorem test_lda_abs : ends { start with pc := 0xFFFF } [(0x0010, 0x10)] [0xAD, 0x10, 0x00]
    (fun t => t.a == 0x10 && t.p == 0x00 && t.pc == 0x0002) = true := by decide

/-- LDX $F0,Y (wraps to 0x0010). -/
theorem test_ldx_zpy : ends { start with x := 0x05, y := 0x20 } [(0x0010, 0x00)] [0xB6, 0xF0]
    (fun t => t.x == 0x00 && t.p == 0x02 && t.pc == 0x0202) = true := by decide

/-- LDX #$00. -/
theorem test_ldx_imm : ends { start with x := 0x05, p := 0x80 } [] [0xA2, 0x00]
    (fun t => t.x == 0x00 && t.p == 0x02 && t.pc == 0x0202) = true := by decide

/-- LDY #$FF. -/
theorem test_ldy_imm : ends start [] [0xA0, 0xFF]
    (fun t => t.y == 0xFF && t.p == 0x80 && t.pc == 0x0202) = true := by decide

/-- LDY $10. -/
theorem test_ldy_zp : ends start [(0x0010, 0x00)] [0xA4, 0x10]
    (fun t => t.p == 0x02 && t.pc == 0x0202) = true := by decide

/-! Section 2.7 of spec/95_test_vectors.md. -/

/-- STA $10,X (wraps). -/
theorem test_sta_zpx : ends { start with a := 0x5A, x := 0xF8 } [] [0x95, 0x10]
    (fun t => t.p == 0x00 && t.pc == 0x0202 && t.readByte 0x0008 == 0x5A && t.readByte 0x0108 == 0x00) = true := by decide

/-- STA $0300 (flags kept). -/
theorem test_sta_abs : ends { start with p := 0x80 } [(0x0300, 0xFF)] [0x8D, 0x00, 0x03]
    (fun t => t.p == 0x80 && t.pc == 0x0203 && t.readByte 0x0300 == 0x00) = true := by decide

/-- STX $FF,Y (wraps to 0x0000). -/
theorem test_stx_zpy : ends { start with x := 0x80, y := 0x01 } [] [0x96, 0xFF]
    (fun t => t.p == 0x00 && t.pc == 0x0202 && t.readByte 0x0000 == 0x80 && t.readByte 0x0100 == 0x00) = true := by decide

/-- STX $10. -/
theorem test_stx_zp : ends { start with x := 0x80 } [] [0x86, 0x10]
    (fun t => t.p == 0x00 && t.pc == 0x0202 && t.readByte 0x0010 == 0x80) = true := by decide

/-- STY $42 (flags kept). -/
theorem test_sty_zp : ends { start with p := 0x80 } [(0x0042, 0x11)] [0x84, 0x42]
    (fun t => t.p == 0x80 && t.pc == 0x0202 && t.readByte 0x0042 == 0x00) = true := by decide

/-- STY $10,X. -/
theorem test_sty_zpx : ends { start with x := 0x01, y := 0x33 } [] [0x94, 0x10]
    (fun t => t.p == 0x00 && t.pc == 0x0202 && t.readByte 0x0011 == 0x33) = true := by decide

/-! Section 2.8 of spec/95_test_vectors.md. -/

/-- TAX. -/
theorem test_tax_imp : ends { start with x := 0x05 } [] [0xAA]
    (fun t => t.x == 0x00 && t.p == 0x02 && t.pc == 0x0201) = true := by decide

/-- TAX. -/
theorem test_tax_imp_2 : ends { start with a := 0x80, x := 0x05 } [] [0xAA]
    (fun t => t.x == 0x80 && t.p == 0x80 && t.pc == 0x0201) = true := by decide

/-- TXA. -/
theorem test_txa_imp : ends { start with x := 0x80 } [] [0x8A]
    (fun t => t.a == 0x80 && t.p == 0x80 && t.pc == 0x0201) = true := by decide

/-- TAY. -/
theorem test_tay_imp : ends { start with a := 0x7F } [] [0xA8]
    (fun t => t.y == 0x7F && t.p == 0x00 && t.pc == 0x0201) = true := by decide

/-- TYA. -/
theorem test_tya_imp : ends { start with a := 0x01 } [] [0x98]
    (fun t => t.a == 0x00 && t.p == 0x02 && t.pc == 0x0201) = true := by decide

/-- TSX. -/
theorem test_tsx_imp : ends start [] [0xBA]
    (fun t => t.x == 0xFD && t.p == 0x80 && t.pc == 0x0201) = true := by decide

/-- TSX. -/
theorem test_tsx_imp_2 : ends { start with x := 0x01, sp := 0x00 } [] [0xBA]
    (fun t => t.x == 0x00 && t.p == 0x02 && t.pc == 0x0201) = true := by decide

/-- TXS (flags kept). -/
theorem test_txs_imp : ends { start with p := 0x80 } [] [0x9A]
    (fun t => t.sp == 0x00 && t.p == 0x80 && t.pc == 0x0201) = true := by decide

/-- TXS. -/
theorem test_txs_imp_2 : ends { start with x := 0xFF, sp := 0x00, p := 0x02 } [] [0x9A]
    (fun t => t.sp == 0xFF && t.p == 0x02 && t.pc == 0x0201) = true := by decide

/-- PHA at SP = 0x00 (wraps). -/
theorem test_pha_imp : ends { start with a := 0x42, sp := 0x00 } [] [0x48]
    (fun t => t.sp == 0xFF && t.p == 0x00 && t.pc == 0x0201 && t.readByte 0x0100 == 0x42) = true := by decide

/-- PHA. -/
theorem test_pha_imp_2 : ends { start with a := 0x42 } [] [0x48]
    (fun t => t.sp == 0xFC && t.p == 0x00 && t.pc == 0x0201 && t.readByte 0x01FD == 0x42) = true := by decide

/-- PLA at SP = 0xFF (wraps). -/
theorem test_pla_imp : ends { start with a := 0x09, sp := 0xFF } [(0x0100, 0x00)] [0x68]
    (fun t => t.a == 0x00 && t.sp == 0x00 && t.p == 0x02 && t.pc == 0x0201) = true := by decide

/-- PLA. -/
theorem test_pla_imp_2 : ends { start with sp := 0xFC } [(0x01FD, 0x80)] [0x68]
    (fun t => t.a == 0x80 && t.sp == 0xFD && t.p == 0x80 && t.pc == 0x0201) = true := by decide

/-- PHP. -/
theorem test_php_imp : ends { start with p := 0xC3 } [] [0x08]
    (fun t => t.sp == 0xFC && t.p == 0xC3 && t.pc == 0x0201 && t.readByte 0x01FD == 0xF3) = true := by decide

/-- PHP. -/
theorem test_php_imp_2 : ends start [] [0x08]
    (fun t => t.sp == 0xFC && t.p == 0x00 && t.pc == 0x0201 && t.readByte 0x01FD == 0x30) = true := by decide

/-- PLP (bits 4, 5 dropped). -/
theorem test_plp_imp : ends { start with sp := 0xFC } [(0x01FD, 0xFF)] [0x28]
    (fun t => t.sp == 0xFD && t.p == 0xCF && t.pc == 0x0201) = true := by decide

/-- PLP. -/
theorem test_plp_imp_2 : ends { start with sp := 0xFC, p := 0xCF } [(0x01FD, 0x30)] [0x28]
    (fun t => t.sp == 0xFD && t.p == 0x00 && t.pc == 0x0201) = true := by decide

/-! Section 2.9 of spec/95_test_vectors.md. -/

/-- JMP $1234. -/
theorem test_jmp_abs : ends start [] [0x4C, 0x34, 0x12]
    (fun t => t.p == 0x00 && t.pc == 0x1234) = true := by decide

/-- JMP ($03FF) (page defect: high byte from 0x0300). -/
theorem test_jmp_ind : ends start [(0x03FF, 0x34), (0x0300, 0x12), (0x0400, 0x56)] [0x6C, 0xFF, 0x03]
    (fun t => t.p == 0x00 && t.pc == 0x1234) = true := by decide

/-- JSR $0000 from the top of memory (pushes 0x0000). -/
theorem test_jsr_abs : ends { start with pc := 0xFFFE } [] [0x20, 0x00, 0x00]
    (fun t => t.sp == 0xFB && t.p == 0x00 && t.pc == 0x0000 && t.readByte 0x01FD == 0x00 && t.readByte 0x01FC == 0x00) = true := by decide

/-- JSR $0300. -/
theorem test_jsr_abs_2 : ends start [] [0x20, 0x00, 0x03]
    (fun t => t.sp == 0xFB && t.p == 0x00 && t.pc == 0x0300 && t.readByte 0x01FD == 0x02 && t.readByte 0x01FC == 0x02) = true := by decide

/-- RTS (pulled 0xFFFF + 1 wraps). -/
theorem test_rts_imp : ends { start with sp := 0xFB, pc := 0x0300 } [(0x01FC, 0xFF), (0x01FD, 0xFF)] [0x60]
    (fun t => t.sp == 0xFD && t.p == 0x00 && t.pc == 0x0000) = true := by decide

/-- RTS. -/
theorem test_rts_imp_2 : ends { start with sp := 0xFB, pc := 0x0300 } [(0x01FC, 0x02), (0x01FD, 0x02)] [0x60]
    (fun t => t.sp == 0xFD && t.p == 0x00 && t.pc == 0x0203) = true := by decide

/-- BCC, C = 0, offset -128. -/
theorem test_bcc_rel : ends start [] [0x90, 0x80]
    (fun t => t.p == 0x00 && t.pc == 0x0182) = true := by decide

/-- BCC, C = 1. -/
theorem test_bcc_rel_2 : ends { start with p := 0x01 } [] [0x90, 0x80]
    (fun t => t.p == 0x01 && t.pc == 0x0202) = true := by decide

/-- BCS, C = 1, branch to itself. -/
theorem test_bcs_rel : ends { start with p := 0x01 } [] [0xB0, 0xFE]
    (fun t => t.p == 0x01 && t.pc == 0x0200) = true := by decide

/-- BCS, C = 0. -/
theorem test_bcs_rel_2 : ends start [] [0xB0, 0xFE]
    (fun t => t.p == 0x00 && t.pc == 0x0202) = true := by decide

/-- BEQ, Z = 1, offset +127. -/
theorem test_beq_rel : ends { start with p := 0x02 } [] [0xF0, 0x7F]
    (fun t => t.p == 0x02 && t.pc == 0x0281) = true := by decide

/-- BEQ, Z = 0. -/
theorem test_beq_rel_2 : ends start [] [0xF0, 0x7F]
    (fun t => t.p == 0x00 && t.pc == 0x0202) = true := by decide

/-- BNE, Z = 0, taken backward. -/
theorem test_bne_rel : ends { start with pc := 0x0207 } [] [0xD0, 0xFB]
    (fun t => t.p == 0x00 && t.pc == 0x0204) = true := by decide

/-- BNE, Z = 1, not taken. -/
theorem test_bne_rel_2 : ends { start with p := 0x02, pc := 0x0207 } [] [0xD0, 0xFB]
    (fun t => t.p == 0x02 && t.pc == 0x0209) = true := by decide

/-- BMI, N = 1. -/
theorem test_bmi_rel : ends { start with p := 0x80 } [] [0x30, 0x10]
    (fun t => t.p == 0x80 && t.pc == 0x0212) = true := by decide

/-- BMI, N = 0. -/
theorem test_bmi_rel_2 : ends start [] [0x30, 0x10]
    (fun t => t.p == 0x00 && t.pc == 0x0202) = true := by decide

/-- BPL, N = 0, target wraps past 0xFFFF. -/
theorem test_bpl_rel : ends { start with pc := 0xFFF0 } [] [0x10, 0x20]
    (fun t => t.p == 0x00 && t.pc == 0x0012) = true := by decide

/-- BPL, N = 1. -/
theorem test_bpl_rel_2 : ends { start with p := 0x80, pc := 0xFFF0 } [] [0x10, 0x20]
    (fun t => t.p == 0x80 && t.pc == 0xFFF2) = true := by decide

/-- BVC, V = 0, offset 0. -/
theorem test_bvc_rel : ends start [] [0x50, 0x00]
    (fun t => t.p == 0x00 && t.pc == 0x0202) = true := by decide

/-- BVC, V = 1. -/
theorem test_bvc_rel_2 : ends { start with p := 0x40 } [] [0x50, 0x05]
    (fun t => t.p == 0x40 && t.pc == 0x0202) = true := by decide

/-- BVS, V = 1. -/
theorem test_bvs_rel : ends { start with p := 0x40 } [] [0x70, 0x05]
    (fun t => t.p == 0x40 && t.pc == 0x0207) = true := by decide

/-- BVS, V = 0. -/
theorem test_bvs_rel_2 : ends start [] [0x70, 0x05]
    (fun t => t.p == 0x00 && t.pc == 0x0202) = true := by decide

/-- BRK at the top of memory, stack wraps, D kept. -/
theorem test_brk_imp : ends { start with sp := 0x01, p := 0x08, pc := 0xFFFF } [(0xFFFE, 0x34)] [0x00]
    (fun t => t.sp == 0xFE && t.p == 0x0C && t.pc == 0x0034 && t.readByte 0x0101 == 0x00 && t.readByte 0x0100 == 0x01 && t.readByte 0x01FF == 0x38) = true := by decide

/-- BRK. -/
theorem test_brk_imp_2 : ends { start with p := 0xC3 } [(0xFFFE, 0x00), (0xFFFF, 0x04)] [0x00]
    (fun t => t.sp == 0xFA && t.p == 0xC7 && t.pc == 0x0400 && t.readByte 0x01FD == 0x02 && t.readByte 0x01FC == 0x02 && t.readByte 0x01FB == 0xF3) = true := by decide

/-- RTI (bits 4, 5 of the pulled byte dropped; no + 1). -/
theorem test_rti_imp : ends { start with sp := 0xFF, pc := 0x0400 } [(0x0100, 0xFF), (0x0101, 0xFF), (0x0102, 0xFF)] [0x40]
    (fun t => t.sp == 0x02 && t.p == 0xCF && t.pc == 0xFFFF) = true := by decide

/-- RTI. -/
theorem test_rti_imp_2 : ends { start with sp := 0xFA, p := 0x04, pc := 0x0400 } [(0x01FB, 0xF3), (0x01FC, 0x02), (0x01FD, 0x02)] [0x40]
    (fun t => t.sp == 0xFD && t.p == 0xC3 && t.pc == 0x0202) = true := by decide

/-! Section 2.10 of spec/95_test_vectors.md. -/

/-- CLC. -/
theorem test_clc_imp : ends { start with p := 0xCF } [] [0x18]
    (fun t => t.p == 0xCE && t.pc == 0x0201) = true := by decide

/-- CLC. -/
theorem test_clc_imp_2 : ends start [] [0x18]
    (fun t => t.p == 0x00 && t.pc == 0x0201) = true := by decide

/-- SEC. -/
theorem test_sec_imp : ends { start with p := 0xCF } [] [0x38]
    (fun t => t.p == 0xCF && t.pc == 0x0201) = true := by decide

/-- SEC. -/
theorem test_sec_imp_2 : ends start [] [0x38]
    (fun t => t.p == 0x01 && t.pc == 0x0201) = true := by decide

/-- CLI. -/
theorem test_cli_imp : ends { start with p := 0xCF } [] [0x58]
    (fun t => t.p == 0xCB && t.pc == 0x0201) = true := by decide

/-- CLI. -/
theorem test_cli_imp_2 : ends start [] [0x58]
    (fun t => t.p == 0x00 && t.pc == 0x0201) = true := by decide

/-- SEI. -/
theorem test_sei_imp : ends { start with p := 0xCF } [] [0x78]
    (fun t => t.p == 0xCF && t.pc == 0x0201) = true := by decide

/-- SEI. -/
theorem test_sei_imp_2 : ends start [] [0x78]
    (fun t => t.p == 0x04 && t.pc == 0x0201) = true := by decide

/-- CLV. -/
theorem test_clv_imp : ends { start with p := 0xCF } [] [0xB8]
    (fun t => t.p == 0x8F && t.pc == 0x0201) = true := by decide

/-- CLV. -/
theorem test_clv_imp_2 : ends start [] [0xB8]
    (fun t => t.p == 0x00 && t.pc == 0x0201) = true := by decide

/-- CLD. -/
theorem test_cld_imp : ends { start with p := 0xCF } [] [0xD8]
    (fun t => t.p == 0xC7 && t.pc == 0x0201) = true := by decide

/-- CLD. -/
theorem test_cld_imp_2 : ends start [] [0xD8]
    (fun t => t.p == 0x00 && t.pc == 0x0201) = true := by decide

/-- SED. -/
theorem test_sed_imp : ends { start with p := 0xCF } [] [0xF8]
    (fun t => t.p == 0xCF && t.pc == 0x0201) = true := by decide

/-- SED. -/
theorem test_sed_imp_2 : ends start [] [0xF8]
    (fun t => t.p == 0x08 && t.pc == 0x0201) = true := by decide

/-- NOP at the top of memory. -/
theorem test_nop_imp : ends { start with pc := 0xFFFF } [] [0xEA]
    (fun t => t.p == 0x00 && t.pc == 0x0000) = true := by decide

/-- NOP. -/
theorem test_nop_imp_2 : ends { start with p := 0xCF } [] [0xEA]
    (fun t => t.p == 0xCF && t.pc == 0x0201) = true := by decide

/-! Section 2.11: decode failure. -/

theorem test_illegal_opcode :
    step (placed { start with a := 0x11, p := 0xC3 } [] [0x02, 0xFF]) = .fault (.illegalOpcode 0x0200 0x02) ∧
    step (placed { start with pc := 0xFFFF } [] [0xFF]) = .fault (.illegalOpcode 0xFFFF 0xFF) := ⟨rfl, rfl⟩

/-! Section 2.12: boot. -/

theorem test_boot_little_endian :
    (boot (hostWrite 0xFFFD 0x12 (hostWrite 0xFFFC 0x34 State.construct))).pc = 0x1234 := by decide

theorem test_boot_never_written : (boot State.construct).pc = 0x0000 ∧ (boot State.construct).sp = 0xFD := ⟨rfl, rfl⟩

theorem test_boot_again_keeps_a :
    (boot (placed { start with a := 0x69 } [(0xFFFC, 0x00), (0xFFFD, 0x02)] [])).a = 0x69 ∧
    (boot (placed { start with a := 0x69, pc := 0x0300 } [(0xFFFC, 0x00), (0xFFFD, 0x02)] [])).pc = 0x0200 := by decide

/-! ### Memory keeps its canonical form -/

theorem test_memory_order : ((start.writeByte 0x0300 0x01).writeByte 0x0010 0x02).mem = [(0x0010, 0x02), (0x0300, 0x01)] := by
  decide

theorem test_memory_zero_is_unlisted : ((start.writeByte 0x0300 0x01).writeByte 0x0300 0x00).mem = [] := by decide

/-! ### Witnesses: a concrete state and operands that meet the hypotheses of each statement that has any -/

theorem witness_EncodeOfDecode : decode [0xA9, 0x69, 0xFF] = .ok (.ldaImm 0x69, [0xFF]) := rfl

theorem witness_OpcodeMapIsTheTable : (ModeTag.indy, (0x91 : Byte)) ∈ opcodesOf .STA := by decide

theorem witness_OneOpcodePerOperationAndMode :
    decode [0xA9, 0x01, 0x02] = .ok (.ldaImm 0x01, [0x02]) ∧ decode [0xA9, 0xFF, 0x00] = .ok (.ldaImm 0xFF, [0x00]) := ⟨rfl, rfl⟩

/-- Also with the operand bytes on the far side of the top of memory. -/
theorem witness_StepRunsTheDecodedInstruction :
    decode (fetchBytes (placed { start with pc := 0xFFFE } [] [0x4C, 0x34, 0x12])) = .ok (.jmpAbs 0x1234, []) := rfl

theorem witness_UnassignedOpcodeIsReported :
    step (placed start [] [0x02]) = .fault (.illegalOpcode 0x0200 0x02) ∧
    (placed start [] [0x02]).readByte 0x0200 ∈ unassignedOpcodes := ⟨rfl, by decide⟩

theorem witness_CanonicalMemoryIsUnique : ∃ s t : State, s.mem.wf = true ∧ t.mem.wf = true ∧
    (∀ a : Word, s.readByte a = t.readByte a) ∧ s.mem ≠ [] :=
  ⟨placed start [(0x0010, 0x02), (0xFFFF, 0x01)] [], placed start [(0xFFFF, 0x01), (0x0010, 0x02)] [], by decide, by decide,
    fun _ => rfl, by decide⟩

theorem witness_StepKeepsTheInvariant : ∃ s t : State, s.Inv ∧ step s = .next t :=
  ⟨placed start [(0x01FE, 0xFF)] [0x28], _, ⟨by decide, by decide⟩, rfl⟩

theorem witness_ConstantStatusBits : ∃ s t : State, s.p &&& 0x30 = 0 ∧ step s = .next t :=
  ⟨placed { start with p := 0xCF } [(0x01FE, 0xFF)] [0x28], _, by decide, rfl⟩

theorem witness_ImpliedAccumulatorImmediateModes :
    Instr.txs.mode = .imp ∧ Instr.rolAcc.mode = .acc ∧ (Instr.cpyImm 0xFF).mode = .imm 0xFF := ⟨rfl, rfl, rfl⟩

theorem witness_ZeroPageModesStayInPageZero : (Instr.stxZpy 0xFF).mode = .mem (.zpy 0xFF) := rfl

theorem witness_AbsoluteModesWrapAtTheTop :
    (Instr.jsr (hilo 0xFF 0xFF)).mode = .mem (.abs (hilo 0xFF 0xFF)) ∧ (Instr.jsr (hilo 0xFF 0xFF)).mnemonic ∈ [.JMP, .JSR] :=
  ⟨rfl, by decide⟩

/-- On either side of the page's last byte. -/
theorem witness_IndirectJumpStaysInThePointersPage :
    (Instr.jmpInd 0x03FF).mode = .ind 0x03FF ∧ (0x03FE : Word).toNat % 256 ≠ 255 ∧ (0x03FF : Word).toNat % 256 = 255 :=
  ⟨rfl, by decide, by decide⟩

theorem witness_RelativeTargetIsSigned : (Instr.bvs 0x80).mode = .rel 0x80 := rfl

theorem witness_FlagPositionsAndZeroNegative : Flag.C ≠ .Z ∧ Flag.C ≠ .N := ⟨by decide, by decide⟩

theorem witness_CompareIsSubtractionThrownAway : Flag.V ∉ ([.C, .Z, .N] : List Flag) := by decide

theorem witness_ShiftFunctions : ror8 ∈ [asl8, lsr8, rol8, ror8] := by simp

theorem witness_AdcAddsWithCarry : (Instr.adcIndy 0xFF).mnemonic = .ADC := rfl

theorem witness_SbcSubtractsWithBorrow : (Instr.sbcAbsy 0xFFFF).mnemonic = .SBC := rfl

theorem witness_LogicalOperationsOnA :
    (Instr.andImm 0x0F).mnemonic ∈ ([.AND, .ORA, .EOR] : List Mnemonic) ∧
    (Instr.oraIndx 0xFF).mnemonic ∈ ([.AND, .ORA, .EOR] : List Mnemonic) ∧
    (Instr.eorZpx 0xFF).mnemonic ∈ ([.AND, .ORA, .EOR] : List Mnemonic) := by decide

theorem witness_BitTestsMemoryAgainstA : (Instr.bitAbs 0xFFFF).mnemonic = .BIT := rfl

theorem witness_AslAndLsrShiftByOne :
    Instr.aslAcc.mnemonic ∈ ([.ASL, .LSR] : List Mnemonic) ∧
    (Instr.lsrAbsx 0xFFFF).mnemonic ∈ ([.ASL, .LSR] : List Mnemonic) := by decide

theorem witness_RolAndRorRotateThroughCarry :
    (Instr.rolZp 0xFF).mnemonic ∈ ([.ROL, .ROR] : List Mnemonic) ∧
    Instr.rorAcc.mnemonic ∈ ([.ROL, .ROR] : List Mnemonic) := by decide

theorem witness_ComparesWriteOnlyFlags :
    ((Instr.cmpIndx 0xFF).mnemonic, Reg.A) ∈ ([(.CMP, .A), (.CPX, .X), (.CPY, .Y)] : List (Mnemonic × Reg)) ∧
    ((Instr.cpyAbs 0xFFFF).mnemonic, Reg.Y) ∈ ([(.CMP, .A), (.CPX, .X), (.CPY, .Y)] : List (Mnemonic × Reg)) := by decide

theorem witness_IncAndDecStepMemory :
    (Instr.incZp 0x00).mnemonic ∈ ([.INC, .DEC] : List Mnemonic) ∧
    (Instr.decAbsx 0xFFFF).mnemonic ∈ ([.INC, .DEC] : List Mnemonic) := by decide

theorem witness_IndexRegistersStepByOne :
    (Instr.dey.mnemonic, Reg.Y, 255) ∈ ([(.INX, .X, 1), (.INY, .Y, 1), (.DEX, .X, 255), (.DEY, .Y, 255)] :
      List (Mnemonic × Reg × Nat)) := by decide

theorem witness_LoadsTakeTheOperand :
    ((Instr.ldxZpy 0xFF).mnemonic, Reg.X) ∈ ([(.LDA, .A), (.LDX, .X), (.LDY, .Y)] : List (Mnemonic × Reg)) := by decide

theorem witness_StoresWriteOnlyTheirByte :
    ((Instr.staIndy 0xFF).mnemonic, Reg.A) ∈ ([(.STA, .A), (.STX, .X), (.STY, .Y)] : List (Mnemonic × Reg)) := by decide

theorem witness_TransfersCopyRegisters :
    (Instr.tsx.mnemonic, Reg.SP, Reg.X) ∈
      ([(.TAX, .A, .X), (.TXA, .X, .A), (.TAY, .A, .Y), (.TYA, .Y, .A), (.TSX, .SP, .X)] :
        List (Mnemonic × Reg × Reg)) := by decide

theorem witness_JmpGoesToItsTarget : (Instr.jmpInd 0x03FF).mnemonic = .JMP ∧ (Instr.jmpAbs 0xFFFF).mnemonic = .JMP :=
  ⟨rfl, rfl⟩

/-- One branch in a state where it is taken and in one where it is not. -/
theorem witness_BranchesTestOneFlag :
    ((Instr.bcc 0x80).mnemonic, Flag.C, false, (0x90 : Byte)) ∈
      ([(.BCC, .C, false, 0x90), (.BCS, .C, true, 0xB0), (.BEQ, .Z, true, 0xF0), (.BNE, .Z, false, 0xD0),
        (.BMI, .N, true, 0x30), (.BPL, .N, false, 0x10), (.BVC, .V, false, 0x50), (.BVS, .V, true, 0x70)] :
        List (Mnemonic × Flag × Bool × Byte)) ∧
    start.flag .C = false ∧ (start.setFlag .C true).flag .C ≠ false := by decide

theorem witness_FlagInstructionsWriteOneBit :
    (Instr.clv.mnemonic, Flag.V, false, (0xB8 : Byte)) ∈
      ([(.CLC, .C, false, 0x18), (.SEC, .C, true, 0x38), (.CLI, .I, false, 0x58), (.SEI, .I, true, 0x78),
        (.CLV, .V, false, 0xB8), (.CLD, .D, false, 0xD8), (.SED, .D, true, 0xF8)] :
        List (Mnemonic × Flag × Bool × Byte)) := by decide

theorem witness_FrameOfEveryInstruction : ({ start with p := 0xCF } : State).p &&& 0x30 = 0 := by decide

/-- Each clause: no branch, a branch that is not taken, a taken branch, a jump, and the three returns. -/
theorem witness_ProgramCounterCommit :
    (Instr.nop.mnemonic ∉ ([.JMP, .JSR, .RTS, .BRK, .RTI] : List Mnemonic) ∧ takenWhen Instr.nop.mnemonic = none) ∧
    (takenWhen (Instr.beq 0xFE).mnemonic = some (.Z, true) ∧ start.flag .Z ≠ true) ∧
    (takenWhen (Instr.bne 0xFE).mnemonic = some (.Z, false) ∧ start.flag .Z = false ∧
      resolve (Instr.bne 0xFE).mode start = .address 0x0200) ∧
    ((Instr.jsr 0xFFFF).mnemonic ∈ ([.JMP, .JSR] : List Mnemonic) ∧
      resolve (Instr.jsr 0xFFFF).mode start = .address 0xFFFF) ∧
    Instr.rts.mnemonic = .RTS ∧ Instr.rti.mnemonic = .RTI ∧ Instr.brk.mnemonic = .BRK := by decide

theorem witness_InterruptAndDecimalFlagsAreStorageOnly : Flag.D = .I ∨ Flag.D = .D := by decide

/-- The state right after the call, and the one right after the trap, are such states. -/
theorem witness_CallsAndTrapsReturn :
    (∃ t t' : State, exec (.jsr 0x0300) start = .next t ∧ t'.sp = t.sp ∧
      ∀ k ∈ [start.sp, start.sp - 1], t'.readByte (stackAddr k) = t.readByte (stackAddr k)) ∧
    (start.p &&& 0x30 = 0 ∧ ∃ t t' : State, exec .brk start = .next t ∧ t'.sp = t.sp ∧
      ∀ k ∈ [start.sp, start.sp - 1, start.sp - 2], t'.readByte (stackAddr k) = t.readByte (stackAddr k)) :=
  ⟨⟨_, _, rfl, rfl, fun _ _ => rfl⟩, by decide, _, _, rfl, rfl, fun _ _ => rfl⟩

theorem witness_PushPullAndStoreLoadRoundTrip :
    start.p &&& 0x30 = 0 ∧
    ((Instr.staIndx 0xFF).mnemonic, Reg.A) ∈ ([(.STA, .A), (.STX, .X), (.STY, .Y)] : List (Mnemonic × Reg)) := by decide

/-- The longest image there is. -/
theorem witness_ImageByteIsAtItsIndex : (List.replicate 65536 (0x00 : Byte)).length ≤ 65536 := by
  rw [List.length_replicate]

end Sys2Proof.Tests
end

section
/-!
The state (spec/10_state.md): what one instruction and one step leave unchanged, that they keep the invariant, and that
the canonical form of memory is one list for one content.
-/

namespace Sys2Proof.Machine

/-! ### The canonical form of memory is unique (log entry 10) -/

/-- A canonical memory whose first listing is at `k` differs at `k` from every memory that lists nothing up to `k`. -/
theorem Memory.read_head_ne {m rest : Memory} {lo k : Nat} {v : Byte} (h : wfFrom lo ((k, v) :: rest) = true)
    (hm : wfFrom (k + 1) m = true) : read ((k, v) :: rest) k ≠ m.read k := by
  rw [wfFrom_cons] at h
  obtain ⟨-, -, hv, -⟩ := h
  rw [read_below hm (Nat.lt_succ_self k)]
  simpa [read] using hv

/-- Two canonical memories with the same first address that read the same have rests that read the same. -/
theorem Memory.read_rest_eq {m n : Memory} {k : Nat} {v w : Byte} (hm : wfFrom (k + 1) m = true)
    (hn : wfFrom (k + 1) n = true) (h : ∀ a < 65536, read ((k, v) :: m) a = read ((k, w) :: n) a) :
    ∀ a < 65536, m.read a = n.read a := by
  intro a ha
  rcases Nat.lt_or_ge k a with hk | hk
  · simpa [read, Nat.ne_of_lt hk] using h a ha
  · rw [read_below hm (by omega), read_below hn (by omega)]

/-- One canonical list for one content: the first listings must stand at the same address, and the rests are the same by
induction. -/
theorem Memory.eq_of_read_eq {m n : Memory} {lo : Nat} (hm : wfFrom lo m = true) (hn : wfFrom lo n = true)
    (h : ∀ a < 65536, m.read a = n.read a) : m = n := by
  induction m generalizing lo n with
  | nil =>
    cases n with
    | nil => rfl
    | cons d n =>
      obtain ⟨j, w⟩ := d
      obtain ⟨-, hj, -⟩ := (wfFrom_cons ..).1 hn
      exact absurd (h j hj).symm (read_head_ne hn rfl)
  | cons c m ih =>
    obtain ⟨k, v⟩ := c
    obtain ⟨-, hk, hv, hrest⟩ := (wfFrom_cons ..).1 hm
    cases n with
    | nil => exact absurd (h k hk) (read_head_ne hm rfl)
    | cons d n =>
      obtain ⟨j, w⟩ := d
      obtain ⟨-, hj, hw, hrest'⟩ := (wfFrom_cons ..).1 hn
      rcases Nat.lt_trichotomy k j with hkj | rfl | hjk
      · have hn' : wfFrom (k + 1) ((j, w) :: n) = true := (wfFrom_cons ..).2 ⟨hkj, hj, hw, hrest'⟩
        exact absurd (h k hk) (read_head_ne hm hn')
      · have hvw : v = w := by simpa [read] using h k hk
        rw [hvw, ih hrest hrest' (read_rest_eq hrest hrest' h)]
      · have hm' : wfFrom (j + 1) ((k, v) :: m) = true := (wfFrom_cons ..).2 ⟨hjk, hk, hv, hrest⟩
        exact absurd (h j hj).symm (read_head_ne hn hm')

/-! ### What every instruction leaves unchanged -/

/-- In a state whose bits 4 and 5 are 0, loading a status byte whose bits 4 and 5 are 0 changes the six live flags only. -/
theorem frame_setP_of_constantBits {s : State} {q : Byte} (hs : s.p &&& Config.pushedBits = 0)
    (hq : q &&& Config.pushedBits = 0) : Frame [] [.C, .Z, .N, .I, .D, .V] [] s (s.setP q) := by
  rw [constantBits_iff] at hs hq
  obtain ⟨hsB, hsU⟩ := hs
  obtain ⟨hqB, hqU⟩ := hq
  refine ⟨fun r _ => by simp, fun f hf => ?_, fun _ _ => rfl⟩
  cases f with
  | B => exact hqB.trans hsB.symm
  | U => exact hqU.trans hsU.symm
  | _ => simp at hf

/-- PLP and RTI begin alike: a pull, then P takes a byte with bits 4 and 5 cleared. -/
theorem frame_pull8_setP {s : State} (v : Byte) (hs : s.p &&& Config.pushedBits = 0) :
    Frame [.SP] [.C, .Z, .N, .I, .D, .V] [] s ((pull8 s).2.setP (pulledStatus v)) :=
  (frame_setReg s .SP (s.sp + 1)).trans
    (frame_setP_of_constantBits (s := (pull8 s).2) hs (pulledStatus_constantBits v))

theorem execPlp_does_of_constantBits {s : State} (hs : s.p &&& Config.pushedBits = 0) :
    Does [.SP] [.C, .Z, .N, .I, .D, .V] [] s (execPlp s) :=
  ⟨_, rfl, (frame_pull8_setP _ hs).trans (frame_advance _ _),
    fun h => ((h.setReg .SP _).setP (pulledStatus_constantBits _)).advance _⟩

theorem execRti_does_of_constantBits {s : State} (hs : s.p &&& Config.pushedBits = 0) :
    Does [.SP] [.C, .Z, .N, .I, .D, .V] [] s (execRti s) :=
  ⟨_, rfl, (((frame_pull8_setP _ hs).trans (frame_setReg _ .SP _)).trans (frame_setPc _ _)).mono
    (by simp) (by simp) (by simp), fun h => h.returnFromTrap⟩

/-- What one instruction can do, once, each constructor by the lemma of the shared operation it is one line over: it
completes, keeps the invariant, and changes only what R10, R11, R104 and its stored addresses list. -/
theorem exec_does (i : Instr) {s : State} (hs : s.p &&& Config.pushedBits = 0) :
    Does (registersWritten i) (flagsWritten i.mnemonic) (storedAddresses i s) s (exec i s) := by
  have sameFour : ∀ f ∈ [Flag.C, .V, .Z, .N], f ∈ [Flag.C, .Z, .N, .V] := by decide
  cases i with
  | adcImm | adcZp | adcZpx | adcAbs | adcAbsx | adcAbsy | adcIndx | adcIndy =>
    exact (adc_does _ s).mono (fun _ h => h) sameFour (fun _ h => h)
  | sbcImm | sbcZp | sbcZpx | sbcAbs | sbcAbsx | sbcAbsy | sbcIndx | sbcIndy =>
    exact (sbc_does _ s).mono (fun _ h => h) sameFour (fun _ h => h)
  | andImm | andZp | andZpx | andAbs | andAbsx | andAbsy | andIndx | andIndy
  | oraImm | oraZp | oraZpx | oraAbs | oraAbsx | oraAbsy | oraIndx | oraIndy
  | eorImm | eorZp | eorZpx | eorAbs | eorAbsx | eorAbsy | eorIndx | eorIndy => exact logic_does _ _ s
  | bitZp | bitAbs => exact bitTest_does _ s
  | aslAcc | lsrAcc | rolAcc | rorAcc => exact shift_acc_does _ s
  | aslZp | aslZpx | aslAbs | aslAbsx | lsrZp | lsrZpx | lsrAbs | lsrAbsx
  | rolZp | rolZpx | rolAbs | rolAbsx | rorZp | rorZpx | rorAbs | rorAbsx => exact shift_mem_does _ _ s
  | cmpImm | cmpZp | cmpZpx | cmpAbs | cmpAbsx | cmpAbsy | cmpIndx | cmpIndy
  | cpxImm | cpxZp | cpxAbs | cpyImm | cpyZp | cpyAbs => exact compareReg_does _ _ s
  | incZp | incZpx | incAbs | incAbsx | decZp | decZpx | decAbs | decAbsx => exact stepMemory_does _ _ s
  | inx | iny | dex | dey => exact stepRegister_does _ _ s
  | ldaImm | ldaZp | ldaZpx | ldaAbs | ldaAbsx | ldaAbsy | ldaIndx | ldaIndy
  | ldxImm | ldxZp | ldxZpy | ldxAbs | ldxAbsy | ldyImm | ldyZp | ldyZpx | ldyAbs | ldyAbsx =>
    exact loadReg_does _ _ s
  | staZp | staZpx | staAbs | staAbsx | staAbsy | staIndx | staIndy
  | stxZp | stxZpy | stxAbs | styZp | styZpx | styAbs => exact storeReg_does _ _ s
  | tax | txa | tay | tya | tsx => exact transfer_does _ _ s
  | txs => exact execTxs_does s
  | pha => exact execPha_does s
  | pla => exact (execPla_does s).mono (List.Perm.subset (.swap ..)) (fun _ h => h) (fun _ h => h)
  | php => exact execPhp_does s
  | plp => exact execPlp_does_of_constantBits hs
  | jmpAbs => exact execJmpAbs_does _ s
  | jmpInd => exact execJmpInd_does _ s
  | jsr => exact execJsr_does _ s
  | rts => exact execRts_does s
  | bcc | bcs | beq | bne | bmi | bpl | bvc | bvs => exact branch_does _ _ s
  | brk => exact execBrk_does s
  | rti => exact execRti_does_of_constantBits hs
  | clc | sec | cli | sei | clv | cld | sed => exact writeFlag_does _ _ s (by decide) (by decide)
  | nop => exact execNop_does s

/-- `exec_does` for the state an instruction answers. -/
theorem exec_next_frame_inv {i : Instr} {s t : State} (hs : s.p &&& Config.pushedBits = 0) (h : exec i s = .next t) :
    Frame (registersWritten i) (flagsWritten i.mnemonic) (storedAddresses i s) s t ∧ (s.Inv → t.Inv) := by
  obtain ⟨u, hu, hframe, hinv⟩ := exec_does i hs
  obtain rfl : u = t := by simpa [hu] using h
  exact ⟨hframe, hinv⟩

theorem exec_of_step_next {s t : State} (h : step s = .next t) : ∃ i, exec i s = .next t := by
  rcases step_cases s with ⟨i, -, -, hi⟩ | ⟨-, hf⟩
  · exact ⟨i, hi ▸ h⟩
  · simp [hf] at h

/-- Bits 4 and 5 are in no row of R104's table (R15). -/
theorem constantBits_notMem_flagsWritten (mn : Mnemonic) : .B ∉ flagsWritten mn ∧ .U ∉ flagsWritten mn := by
  cases mn <;> decide

theorem exec_keeps_constantBits {i : Instr} {s t : State} (hs : s.p &&& Config.pushedBits = 0)
    (h : exec i s = .next t) : t.p &&& Config.pushedBits = 0 := by
  have hframe := (exec_next_frame_inv hs h).1
  obtain ⟨hB, hU⟩ := constantBits_notMem_flagsWritten i.mnemonic
  rw [constantBits_iff] at hs ⊢
  exact ⟨(hframe.status .B hB).trans hs.1, (hframe.status .U hU).trans hs.2⟩

theorem step_keeps_inv {s t : State} (hs : s.Inv) (h : step s = .next t) : t.Inv := by
  obtain ⟨i, hi⟩ := exec_of_step_next h
  exact (exec_next_frame_inv hs.status hi).2 hs

/-! ### Boot -/

theorem State.Inv.boot {s : State} (h : s.Inv) : (boot s).Inv := (h.setReg .SP _).setPc _

theorem frame_boot (s : State) : Frame [.SP] [] [] s (boot s) :=
  (frame_setReg s .SP _).trans (frame_setPc _ _)

/-- The program counter after boot is the little-endian word at the reset vector (R31, R261). -/
theorem boot_pc_toNat (s : State) :
    (boot s).pc.toNat = (s.readByte 0xFFFC).toNat + 256 * (s.readByte 0xFFFD).toNat := by
  have hpc : (boot s).pc = hilo (s.readByte 0xFFFD) (s.readByte 0xFFFC) := rfl
  rw [hpc, hilo_toNat]
  omega

/-! ### Loading and storing the status byte (R14) -/

theorem execPhp_readByte (s : State) :
    ∃ t, exec .php s = .next t ∧ t.readByte (stackAddr s.sp) = pushedStatus s.p :=
  ⟨_, rfl, by simp [readByte_push8]⟩

theorem execBrk_readByte (s : State) :
    ∃ t, exec .brk s = .next t ∧ t.readByte (stackAddr (s.sp - 2)) = pushedStatus s.p := by
  have hslot : s.sp - 2 = s.sp - 1 - 1 := by bv_omega
  exact ⟨_, rfl, by rw [readByte_enterTrap, if_pos (by rw [hslot])]⟩

theorem execPlp_p (s : State) :
    ∃ t, exec .plp s = .next t ∧ t.p = pulledStatus (s.readByte (stackAddr (s.sp + 1))) :=
  ⟨_, rfl, rfl⟩

theorem execRti_p (s : State) :
    ∃ t, exec .rti s = .next t ∧ t.p = pulledStatus (s.readByte (stackAddr (s.sp + 1))) := by
  obtain ⟨-, -, -, -, hp, -⟩ := returnFromTrap_fields s
  exact ⟨_, rfl, hp⟩

/-! ### The statements about the state -/

/-- Settles O17: the invariant is kept by every instruction, by the one lemma over all of them. -/
theorem stepKeepsTheInvariant : Obligations.StepKeepsTheInvariant :=
  ⟨fun _ _ => step_keeps_inv, fun _ h => h.boot, fun _ a v h => h.writeByte a v⟩

/-- Settles O12, by the induction on the canonical list. -/
theorem canonicalMemoryIsUnique : Obligations.CanonicalMemoryIsUnique := by
  intro s t hs ht h
  refine Memory.eq_of_read_eq hs ht fun a ha => ?_
  have hw : (BitVec.ofNat 16 a).toNat = a := by simpa using ha
  simpa only [State.readByte, hw] using h (BitVec.ofNat 16 a)

/-- Settles O15: `boot` is one register write and one program-counter write. -/
theorem bootSetsOnlyStackPointerAndProgramCounter : Obligations.BootSetsOnlyStackPointerAndProgramCounter :=
  fun s => ⟨rfl, boot_pc_toNat s, frame_boot s, rfl, rfl, rfl⟩

/-- Settles O18: no instruction's row of R104 holds B or U, and the four that load or store P mask or set both bits. -/
theorem constantStatusBits : Obligations.ConstantStatusBits := by
  refine ⟨rfl, fun s t hs h => ?_, execPlp_p, execRti_p, execPhp_readByte, execBrk_readByte⟩
  obtain ⟨i, hi⟩ := exec_of_step_next h
  exact exec_keeps_constantBits hs hi

/-- Settles O25: a flag is one bit of P, and `SetZN` writes two of them. -/
theorem flagPositionsAndZeroNegative : Obligations.FlagPositionsAndZeroNegative := by
  refine ⟨fun p => ?_, getFlag_setFlag, fun p v => ⟨?_, ?_, fun f hZ hN => ?_⟩⟩
  · simp only [getFlag_eq_getLsbD, flagBit, and_self]
  · simp [getFlag_setZN, beq_eq_decide]
  · simp [getFlag_setZN, BitVec.msb_eq_getLsbD_last]
  · simp [getFlag_setZN, hZ, hN]

/-- Settles O52: what every instruction does, read off its frame. -/
theorem frameOfEveryInstruction : Obligations.FrameOfEveryInstruction := by
  intro i s hs
  obtain ⟨t, ht, hframe, -⟩ := exec_does i hs
  exact ⟨t, ht, hframe⟩

/-- Settles O14: the zero registers and the empty memory list of `State.construct`. -/
theorem constructIsAllZero : Obligations.ConstructIsAllZero :=
  ⟨rfl, rfl, rfl, rfl, rfl, rfl, fun _ => rfl⟩

end Sys2Proof.Machine
end

section
/-!
Memory (spec/20_memory.md): reads after one write and after a run of writes, the stack, and instructions stored as data.
-/

namespace Sys2Proof

/-! ### Decoding what the encoder makes (R50, R51, R53) -/

/-- `decode_f3` for an operand word in its stored order, low byte first (R31). -/
theorem decode_f3_word {op : Byte} {mk : Word → Instr} (h : decodeOpcode op = .f3 mk) (w : Word) (rest : List Byte) :
    decode (op :: lo8 w :: hi8 w :: rest) = .ok (mk w, rest) := by
  simpa using decode_f3 h (lo8 w) (hi8 w) rest

/-- The decoder undoes the encoder, whatever follows: each constructor by the format its opcode stands for. -/
theorem decode_encode_append (i : Instr) (rest : List Byte) : decode (encode i ++ rest) = .ok (i, rest) := by
  cases i with
  | aslAcc | lsrAcc | rolAcc | rorAcc | inx | iny | dex | dey | tax | txa | tay | tya | tsx | txs | pha | pla | php | plp
  | rts | brk | rti | clc | sec | cli | sei | clv | cld | sed | nop => exact decode_f1 rfl rest
  | adcImm b1 | adcZp b1 | adcZpx b1 | adcIndx b1 | adcIndy b1 | sbcImm b1 | sbcZp b1 | sbcZpx b1 | sbcIndx b1 | sbcIndy b1
  | andImm b1 | andZp b1 | andZpx b1 | andIndx b1 | andIndy b1 | oraImm b1 | oraZp b1 | oraZpx b1 | oraIndx b1 | oraIndy b1
  | eorImm b1 | eorZp b1 | eorZpx b1 | eorIndx b1 | eorIndy b1 | bitZp b1
  | aslZp b1 | aslZpx b1 | lsrZp b1 | lsrZpx b1 | rolZp b1 | rolZpx b1 | rorZp b1 | rorZpx b1
  | cmpImm b1 | cmpZp b1 | cmpZpx b1 | cmpIndx b1 | cmpIndy b1 | cpxImm b1 | cpxZp b1 | cpyImm b1 | cpyZp b1
  | incZp b1 | incZpx b1 | decZp b1 | decZpx b1
  | ldaImm b1 | ldaZp b1 | ldaZpx b1 | ldaIndx b1 | ldaIndy b1 | ldxImm b1 | ldxZp b1 | ldxZpy b1
  | ldyImm b1 | ldyZp b1 | ldyZpx b1 | staZp b1 | staZpx b1 | staIndx b1 | staIndy b1 | stxZp b1 | stxZpy b1
  | styZp b1 | styZpx b1 | bcc b1 | bcs b1 | beq b1 | bne b1 | bmi b1 | bpl b1 | bvc b1 | bvs b1 =>
    exact decode_f2 (by rw [Instr.opcode]; rfl) b1 rest
  | adcAbs w | adcAbsx w | adcAbsy w | sbcAbs w | sbcAbsx w | sbcAbsy w | andAbs w | andAbsx w | andAbsy w
  | oraAbs w | oraAbsx w | oraAbsy w | eorAbs w | eorAbsx w | eorAbsy w | bitAbs w
  | aslAbs w | aslAbsx w | lsrAbs w | lsrAbsx w | rolAbs w | rolAbsx w | rorAbs w | rorAbsx w
  | cmpAbs w | cmpAbsx w | cmpAbsy w | cpxAbs w | cpyAbs w | incAbs w | incAbsx w | decAbs w | decAbsx w
  | ldaAbs w | ldaAbsx w | ldaAbsy w | ldxAbs w | ldxAbsy w | ldyAbs w | ldyAbsx w
  | staAbs w | staAbsx w | staAbsy w | stxAbs w | styAbs w | jmpAbs w | jmpInd w | jsr w =>
    exact decode_f3_word (by rw [Instr.opcode]; rfl) w rest

/-- No addressing mode takes more than two operand bytes (R52). -/
theorem Mode.length_le_three (m : Mode) : m.length ≤ 3 := by
  cases m with
  | mem m => cases m <;> simp [Mode.length, MemMode.length]
  | _ => simp [Mode.length]

end Sys2Proof

namespace Sys2Proof.Machine

/-! ### Bytes written one after another (R30, R47) -/

@[simp] theorem storeBytes_pc (addr : Word) (bytes : List Byte) (s : State) : (storeBytes addr bytes s).pc = s.pc := by
  induction bytes generalizing addr s with
  | nil => rfl
  | cons v rest ih => exact ih (addr + 1) (s.writeByte addr v)

@[simp] theorem storeBytes_p (addr : Word) (bytes : List Byte) (s : State) : (storeBytes addr bytes s).p = s.p := by
  induction bytes generalizing addr s with
  | nil => rfl
  | cons v rest ih => exact ih (addr + 1) (s.writeByte addr v)

@[simp] theorem reg_storeBytes (addr : Word) (bytes : List Byte) (s : State) (r : Reg) :
    (storeBytes addr bytes s).reg r = s.reg r := by
  induction bytes generalizing addr s with
  | nil => rfl
  | cons v rest ih => rw [storeBytes, ih, State.reg_writeByte]

/-- The byte at `a` is the one stored at its distance from the first address, modulo 65536. At most 65536 bytes go in, so
none is written over by a later one. -/
theorem readByte_storeBytes (addr : Word) {bytes : List Byte} (s : State) (a : Word) (h : bytes.length ≤ 65536) :
    (storeBytes addr bytes s).readByte a = bytes.getD (a - addr).toNat (s.readByte a) := by
  induction bytes generalizing addr s with
  | nil => rfl
  | cons v rest ih =>
    rw [List.length_cons] at h
    rw [storeBytes, ih (addr + 1) (s.writeByte addr v) (by omega)]
    by_cases ha : a = addr
    · have hlast : (a - (addr + 1)).toNat = 65535 := by bv_omega
      rw [hlast, List.getD_eq_default _ _ (by omega), ha, BitVec.sub_self]
      exact s.readByte_writeByte_same addr v
    · have hnext : (a - addr).toNat = (a - (addr + 1)).toNat + 1 := by bv_omega
      rw [hnext, List.getD_cons_succ, s.readByte_writeByte_other v ha]

/-! ### Fetching what was stored (R41, R61) -/

theorem step_of_decode_fetchBytes {s : State} {i : Instr} {rest : List Byte}
    (h : decode (fetchBytes s) = .ok (i, rest)) : step s = exec i s := by
  simp [step, h]

/-- Up to three bytes stored at the program counter are the first bytes fetched; the others are what stood there before. -/
theorem fetchBytes_storeBytes {bytes : List Byte} (s : State) (h : bytes.length ≤ 3) :
    fetchBytes (storeBytes s.pc bytes s) = bytes ++ (fetchBytes s).drop bytes.length := by
  have h1 : s.pc + 1 - s.pc = 1 := by bv_omega
  have h2 : s.pc + 2 - s.pc = 2 := by bv_omega
  have hread := fun a => readByte_storeBytes s.pc s a (h.trans (by decide))
  simp only [fetchBytes, storeBytes_pc, hread, h1, h2, BitVec.sub_self]
  match bytes, h with
  | [], _ | [_], _ | [_, _], _ | [_, _, _], _ => rfl

theorem decode_fetchBytes_storeBytes_encode (i : Instr) (s : State) :
    ∃ rest, decode (fetchBytes (storeBytes s.pc (encode i) s)) = .ok (i, rest) := by
  have hlen : (encode i).length ≤ 3 := encode_length i ▸ i.mode.length_le_three
  exact ⟨_, fetchBytes_storeBytes s hlen ▸ decode_encode_append i _⟩

/-! ### The stack in plain arithmetic (R43 to R45) -/

theorem stackAddr_eq_ofNat (sp : Byte) : stackAddr sp = BitVec.ofNat 16 (0x0100 + sp.toNat) := by
  apply BitVec.eq_of_toNat_eq
  rw [stackAddr_toNat, BitVec.toNat_ofNat]
  omega

theorem stackAddr_add_one (sp : Byte) :
    stackAddr (sp + 1) = BitVec.ofNat 16 (0x0100 + (sp.toNat + 1) % 256) := by
  rw [stackAddr_eq_ofNat]
  rfl

/-- Pulling a word that has just been pushed (R45). -/
theorem pull16_push16 (w : Word) (s : State) : (pull16 (push16 w s)).1 = w ∧ (pull16 (push16 w s)).2.sp = s.sp := by
  have hslots : s.sp ≠ s.sp - 1#8 := by bv_omega
  simp [readByte_push16, stackAddr_ne hslots]

/-! ### The statements about memory -/

/-- Settles O8: the stored bytes are the first bytes fetched, and the decoder undoes the encoder. -/
theorem storedInstructionRunsNext : Obligations.StoredInstructionRunsNext := by
  intro i s
  obtain ⟨_, h⟩ := decode_fetchBytes_storeBytes_encode i s
  exact step_of_decode_fetchBytes h

/-- Settles O13: push and pull are one access of the stack page and one step of SP. -/
theorem stackDiscipline : Obligations.StackDiscipline := by
  intro s
  refine ⟨fun v => ?_, ?_, fun _ => rfl, rfl, fun w => pull16_push16 w s⟩
  · rw [← stackAddr_eq_ofNat]
    have hsp : s.sp - 1 = BitVec.ofNat 8 (s.sp.toNat + 255) := by bv_omega
    exact ⟨by simp [readByte_push8], hsp, rfl, frame_push8 v s⟩
  · rw [← stackAddr_add_one]
    have hsp : s.sp + 1 = BitVec.ofNat 8 (s.sp.toNat + 1) := by bv_omega
    exact ⟨rfl, hsp, rfl, frame_setReg s .SP _⟩

/-- Settles O57: an image is a run of bytes stored from address 0. -/
theorem imageByteIsAtItsIndex : Obligations.ImageByteIsAtItsIndex := by
  intro image s a h
  refine ⟨?_, storeBytes_pc .., storeBytes_p .., reg_storeBytes _ image s⟩
  simpa [loadImage] using readByte_storeBytes 0x0000 s a h

/-- Settles O11: the read-after-write law and the frame of one write. -/
theorem readGivesTheLastWrite : Obligations.ReadGivesTheLastWrite :=
  ⟨fun _ => rfl, fun s a b v => ⟨s.readByte_writeByte a b v, rfl, frame_writeByte s a v⟩⟩

end Sys2Proof.Machine
end

section
/-!
The encoding (spec/30_encoding.md): one opcode byte in the decoder's matrix, in the encoder and in the table of R56, what
a step makes of it, and where every instruction leaves the program counter.
-/

namespace Sys2Proof

/-! ### One opcode byte in the decoder and in the encoder (R50, R51, R57) -/

/-- A format stands for `op` on both sides: its instructions are exactly those that the encoder gives this opcode byte and
these operand bytes, or it is no instruction and R57 lists the byte. -/
inductive Format.StandsFor (op : Byte) : Format → Prop
  | unassigned (h : op ∈ unassignedOpcodes) : StandsFor op .unassigned
  | f1 {i : Instr} (h : encode i = [op]) : StandsFor op (.f1 i)
  | f2 {mk : Byte → Instr} (h : ∀ b1, encode (mk b1) = [op, b1]) : StandsFor op (.f2 mk)
  | f3 {mk : Word → Instr} (h : ∀ w, encode (mk w) = [op, lo8 w, hi8 w]) : StandsFor op (.f3 mk)

/-- The bytes a format takes are the encoding of the instruction it makes of them. -/
theorem Format.StandsFor.eq_encode_append {op : Byte} {f : Format} (hf : f.StandsFor op) {bytes rest : List Byte}
    {i : Instr} (h : f.assemble op bytes = .ok (i, rest)) : op :: bytes = encode i ++ rest := by
  cases hf with
  | unassigned => cases h
  | f1 hi =>
    cases h
    rw [hi, List.singleton_append]
  | f2 hmk =>
    match bytes, h with
    | b1 :: _, h =>
      cases h
      simp [hmk]
  | f3 hmk =>
    match bytes, h with
    | b1 :: b2 :: _, h =>
      cases h
      simp [hmk]

/-- An assigned opcode, constructor by constructor: the matrix holds the constructor's own format there. The opcode is
written out first, so that looking it up in the matrix computes with a literal. -/
theorem decodeOpcode_opcode_standsFor (i : Instr) : (decodeOpcode i.opcode).StandsFor i.opcode := by
  cases i <;> rw [Instr.opcode] <;> constructor <;> intros <;> rfl

theorem opcodeAssigned_eq_false_iff (op : Byte) : opcodeAssigned [op] = false ↔ decodeOpcode op = .unassigned := by
  cases h : decodeOpcode op <;> simp [opcodeAssigned, h]

/-- R57 prints the empty places of the matrix, in rising order. -/
theorem unassignedOpcodes_eq_filter :
    unassignedOpcodes = ((List.finRange 256).map BitVec.ofFin).filter (fun op => !opcodeAssigned [op]) := by decide

theorem decodeOpcode_eq_unassigned_iff (op : Byte) : decodeOpcode op = .unassigned ↔ op ∈ unassignedOpcodes := by
  have hop : op ∈ (List.finRange 256).map BitVec.ofFin := List.mem_map.2 ⟨op.toFin, List.mem_finRange _, rfl⟩
  simp [unassignedOpcodes_eq_filter, List.mem_filter, hop, opcodeAssigned_eq_false_iff]

theorem unassignedOpcodes_nodup : unassignedOpcodes.Nodup := by
  rw [unassignedOpcodes_eq_filter]
  exact ((List.nodup_finRange 256).map fun _ _ => BitVec.ofFin.inj).filter _

/-- An assigned opcode is the opcode of an instruction, the one it decodes to with operand bytes 0. -/
theorem exists_opcode_eq (op : Byte) (h : opcodeAssigned [op] = true) : ∃ i : Instr, i.opcode = op := by
  have hall : ∀ op : Byte, opcodeAssigned [op] = true → (decodeTableWord 8 op.toNat).any (·.opcode == op) = true := by
    decide
  obtain ⟨i, -, hi⟩ := (Option.any_eq_true _ _).1 (hall op h)
  exact ⟨i, eq_of_beq hi⟩

/-- The matrix and the encoder agree at each of the 256 opcode bytes. -/
theorem decodeOpcode_standsFor (op : Byte) : (decodeOpcode op).StandsFor op := by
  cases h : opcodeAssigned [op] with
  | false =>
    rw [opcodeAssigned_eq_false_iff] at h
    rw [h]
    exact .unassigned ((decodeOpcode_eq_unassigned_iff op).1 h)
  | true =>
    obtain ⟨i, rfl⟩ := exists_opcode_eq op h
    exact decodeOpcode_opcode_standsFor i

/-! ### Decoding whole byte strings (R50, R51) -/

theorem eq_encode_append_of_decode {bytes rest : List Byte} {i : Instr} (h : decode bytes = .ok (i, rest)) :
    bytes = encode i ++ rest := by
  cases bytes with
  | nil => cases h
  | cons op bytes => exact (decodeOpcode_standsFor op).eq_encode_append h

theorem opcode_of_decode {op : Byte} {bytes rest : List Byte} {i : Instr} (h : decode (op :: bytes) = .ok (i, rest)) :
    i.opcode = op :=
  (List.cons.inj (eq_encode_append_of_decode h)).1.symm

/-- Three bytes are enough for every format, so only R57's list is rejected. -/
theorem decode_three_cases (op b1 b2 : Byte) :
    (decode [op, b1, b2] = .error (.unassigned op) ∧ op ∈ unassignedOpcodes) ∨
    (∃ i r, decode [op, b1, b2] = .ok (i, r) ∧ op ∉ unassignedOpcodes) := by
  rw [← decodeOpcode_eq_unassigned_iff]
  rcases assemble_ok_or_unassigned op b1 b2 [] (decodeOpcode op) with ⟨i, r, h⟩ | h
  · refine .inr ⟨i, r, h, fun hu => ?_⟩
    rw [hu] at h
    cases h
  · exact .inl ⟨by rw [decode_cons, h, Format.assemble], h⟩

theorem opcode_notMem_unassignedOpcodes (i : Instr) : i.opcode ∉ unassignedOpcodes := by
  intro h
  have hdec := decode_encode_append i []
  rw [encode, List.cons_append, decode_cons, (decodeOpcode_eq_unassigned_iff _).2 h] at hdec
  cases hdec

/-- The table of R52. -/
theorem Mode.tag_length_mem (m : Mode) :
    (m.tag, m.length) ∈ ([(.imp, 1), (.acc, 1), (.imm, 2), (.zp, 2), (.zpx, 2), (.zpy, 2), (.rel, 2), (.abs, 3),
      (.absx, 3), (.absy, 3), (.ind, 3), (.indx, 2), (.indy, 2)] : List (ModeTag × Nat)) := by
  cases m with
  | mem m => cases m <;> simp [Mode.tag, MemMode.tag, Mode.length, MemMode.length]
  | _ => simp [Mode.tag, Mode.length]

end Sys2Proof

namespace Sys2Proof.Machine

/-! ### The table of R56 between the two -/

/-- Every instruction stands in the row of its operation and mode. -/
theorem opcode_mem_opcodesOf (i : Instr) : (i.mode.tag, i.opcode) ∈ opcodesOf i.mnemonic := by
  cases i <;> exact List.mem_of_elem_eq_true rfl

/-- Every row of the table has an instruction, the one its opcode decodes to with operand bytes 0. -/
theorem exists_instr_of_row {mn : Mnemonic} : ∀ row ∈ opcodesOf mn, ∃ i, decodeTableWord 8 row.2.toNat = some i ∧
    i.mnemonic = mn ∧ i.mode.tag = row.1 ∧ i.opcode = row.2 := by
  have h : ∀ row ∈ opcodesOf mn, (decodeTableWord 8 row.2.toNat).any
      (fun i => decide (i.mnemonic = mn ∧ i.mode.tag = row.1 ∧ i.opcode = row.2)) = true := by
    cases mn <;> decide
  intro row hrow
  simpa [Option.any_eq_true] using h row hrow

/-- Within one operation a mode has one opcode. -/
theorem row_eq_of_tag_eq {mn : Mnemonic} : ∀ row ∈ opcodesOf mn, ∀ row' ∈ opcodesOf mn, row.1 = row'.1 → row = row' := by
  cases mn <;> decide

/-- Two instructions share the opcode byte exactly when they share operation and mode: an opcode is one row of the table,
found by decoding it, and a row of an operation is fixed by its mode. -/
theorem opcode_eq_iff (i j : Instr) : i.opcode = j.opcode ↔ i.mnemonic = j.mnemonic ∧ i.mode.tag = j.mode.tag := by
  constructor
  · intro h
    obtain ⟨k, hk, hkmn, hktag, -⟩ := exists_instr_of_row _ (opcode_mem_opcodesOf i)
    obtain ⟨l, hl, hlmn, hltag, -⟩ := exists_instr_of_row _ (opcode_mem_opcodesOf j)
    obtain rfl : l = k := by simpa [h, hl] using hk
    exact ⟨hkmn.symm.trans hlmn, hktag.symm.trans hltag⟩
  · rintro ⟨hmn, htag⟩
    have hi := opcode_mem_opcodesOf i
    rw [hmn] at hi
    exact congrArg Prod.snd (row_eq_of_tag_eq _ hi _ (opcode_mem_opcodesOf j) htag)

/-- Whatever its operand bytes, a row's opcode decodes to an instruction of that row. -/
theorem decode_row {mn : Mnemonic} {row : ModeTag × Byte} (hrow : row ∈ opcodesOf mn) (b1 b2 : Byte) :
    ∃ i rest, decode [row.2, b1, b2] = .ok (i, rest) ∧ i.mnemonic = mn ∧ i.mode.tag = row.1 := by
  obtain ⟨j, -, rfl, htag, hop⟩ := exists_instr_of_row row hrow
  rcases decode_three_cases row.2 b1 b2 with ⟨-, hun⟩ | ⟨i, rest, h, -⟩
  · exact absurd (hop ▸ hun) (opcode_notMem_unassignedOpcodes j)
  · obtain ⟨hmn, htag'⟩ := (opcode_eq_iff i j).1 ((opcode_of_decode h).trans hop.symm)
    exact ⟨i, rest, h, hmn, htag'.trans htag⟩

/-! ### Where an instruction leaves the program counter (R62) -/

/-- The operations that set the program counter themselves whatever the state (R62). -/
def alwaysSetPc : List Mnemonic := [.JMP, .JSR, .RTS, .BRK, .RTI]

/-- What R62 says of the program counter after `i`, from state `s` to state `t`. -/
structure CommitsPc (i : Instr) (s t : State) : Prop where
  advance : i.mnemonic ∉ alwaysSetPc →
    (∀ f v, takenWhen i.mnemonic = some (f, v) → s.flag f ≠ v) → t.pc = BitVec.ofNat 16 (s.pc.toNat + i.length)
  taken : ∀ f v ea, takenWhen i.mnemonic = some (f, v) → s.flag f = v → resolve i.mode s = .address ea → t.pc = ea
  jump : ∀ ea, i.mnemonic ∈ ([.JMP, .JSR] : List Mnemonic) → resolve i.mode s = .address ea → t.pc = ea
  rts : i.mnemonic = .RTS → t.pc = (pull16 s).1 + 1
  rti : i.mnemonic = .RTI → t.pc = (pull16 (pull8 s).2).1
  brk : i.mnemonic = .BRK → t.pc = t.readWord 0xFFFE

/-- The default advance in unbounded arithmetic. -/
theorem add_ofNat_eq (pc : Word) (n : Nat) : pc + BitVec.ofNat 16 n = BitVec.ofNat 16 (pc.toNat + n) := by
  rw [BitVec.ofNat_add, BitVec.ofNat_toNat, BitVec.setWidth_eq]

/-- For any other than the five only the two clauses on branches say anything. -/
theorem CommitsPc.of_notMem {i : Instr} {s t : State} (hmn : i.mnemonic ∉ alwaysSetPc)
    (hadvance : (∀ f v, takenWhen i.mnemonic = some (f, v) → s.flag f ≠ v) → t.pc = s.pc + BitVec.ofNat 16 i.length)
    (htaken : ∀ f v ea, takenWhen i.mnemonic = some (f, v) → s.flag f = v → resolve i.mode s = .address ea → t.pc = ea) :
    CommitsPc i s t := by
  simp only [alwaysSetPc, List.mem_cons, List.not_mem_nil, or_false, not_or] at hmn
  obtain ⟨hjmp, hjsr, hrts, hbrk, hrti⟩ := hmn
  exact ⟨fun _ h => (hadvance h).trans (add_ofNat_eq ..), htaken, by simp [hjmp, hjsr], fun h => absurd h hrts,
    fun h => absurd h hrti, fun h => absurd h hbrk⟩

theorem CommitsPc.of_advance {i : Instr} {s t : State} (hmn : i.mnemonic ∉ alwaysSetPc)
    (hbr : takenWhen i.mnemonic = none) (hpc : t.pc = s.pc + BitVec.ofNat 16 i.length) : CommitsPc i s t :=
  .of_notMem hmn (fun _ => hpc) (by simp [hbr])

theorem CommitsPc.of_jump {i : Instr} {s t : State} (hmn : i.mnemonic ∈ ([.JMP, .JSR] : List Mnemonic))
    (hpc : ∀ ea, resolve i.mode s = .address ea → t.pc = ea) : CommitsPc i s t := by
  simp only [List.mem_cons, List.not_mem_nil, or_false] at hmn
  rcases hmn with h | h <;>
    exact ⟨by simp [h, alwaysSetPc], by simp [h, takenWhen], fun ea _ => hpc ea, by simp [h], by simp [h], by simp [h]⟩

/-- The eight branches: the condition is the row of R193's table. -/
theorem branch_commitsPc {i : Instr} {b1 : Byte} {f : Flag} {v taken : Bool} {s : State}
    (hmn : i.mnemonic ∉ alwaysSetPc) (hbr : takenWhen i.mnemonic = some (f, v)) (hmode : i.mode = .rel b1)
    (htaken : taken = (s.flag f == v)) : ∃ t, branch taken b1 s = .next t ∧ CommitsPc i s t := by
  by_cases h : s.flag f = v
  · refine ⟨s.setPc (relativeTarget b1 s), by simp [branch, htaken, h], .of_notMem hmn ?_ ?_⟩
    · exact fun hno => absurd h (hno f v hbr)
    · intro _ _ ea _ _ hea
      rw [hmode] at hea
      exact Resolved.address.inj hea
  · refine ⟨advance 2 s, by simp [branch, htaken, h], .of_notMem hmn ?_ ?_⟩
    · intro _
      rw [Instr.length, hmode]
      rfl
    · intro _ _ _ hrow htrue
      cases hbr.symm.trans hrow
      exact absurd htrue h

/-- Every instruction completes in every state, with the program counter of R62. -/
theorem exec_commitsPc (i : Instr) (s : State) : ∃ t, exec i s = .next t ∧ CommitsPc i s t := by
  cases i with
  | jmpAbs | jmpInd | jsr => exact ⟨_, rfl, .of_jump (List.mem_of_elem_eq_true rfl) fun _ h => Resolved.address.inj h⟩
  | bcc | bne | bpl | bvc => exact branch_commitsPc (of_decide_eq_false rfl) rfl rfl (beq_false _).symm
  | bcs | beq | bmi | bvs => exact branch_commitsPc (of_decide_eq_false rfl) rfl rfl (beq_true _).symm
  | rts => exact ⟨_, rfl, by constructor <;> simp [Instr.mnemonic, alwaysSetPc, takenWhen]⟩
  | rti => exact ⟨_, rfl, by constructor <;> simp [Instr.mnemonic, alwaysSetPc, takenWhen, returnFromTrap_fields]⟩
  | brk => exact ⟨_, rfl, by constructor <;> simp [Instr.mnemonic, alwaysSetPc, takenWhen, enterTrap_pc, Config.vecBrk]⟩
  | _ => exact ⟨_, rfl, .of_advance (of_decide_eq_false rfl) rfl rfl⟩

theorem exec_next (i : Instr) (s : State) : ∃ t, exec i s = .next t := by
  obtain ⟨t, ht, -⟩ := exec_commitsPc i s
  exact ⟨t, ht⟩

/-! ### What a step makes of an opcode byte (R57, R61, R63, R231) -/

/-- `step_cases` with R57's list for the matrix and a next state for the instruction. -/
theorem step_next_or_fault (s : State) :
    (s.readByte s.pc ∉ unassignedOpcodes ∧ StepCompletes s) ∨
    (s.readByte s.pc ∈ unassignedOpcodes ∧ step s = .fault (.illegalOpcode s.pc (s.readByte s.pc))) := by
  rcases step_cases s with ⟨i, r, hdec, hstep⟩ | ⟨hun, hstep⟩
  · obtain ⟨t, ht⟩ := exec_next i s
    refine .inl ⟨?_, t, hstep.trans ht⟩
    rw [← opcode_of_decode hdec]
    exact opcode_notMem_unassignedOpcodes i
  · exact .inr ⟨(decodeOpcode_eq_unassigned_iff _).1 hun, hstep⟩

/-- A run whose first step faults ends in that fault. -/
theorem run_succ_of_fault {s : State} {f : Fault} (h : step s = .fault f) (k : Nat) : core.run (k + 1) s = .fault f := by
  have hcore : core.step s = .fault f := h
  simp only [Host.Core.run, hcore]

/-! ### The statements about the encoding -/

/-- Settles O1: the decoder undoes the encoder, constructor by constructor. -/
theorem decodeOfEncode : Obligations.DecodeOfEncode := decode_encode_append

/-- Settles O2: at every opcode byte the matrix and the encoder agree. -/
theorem encodeOfDecode : Obligations.EncodeOfDecode := fun _ _ _ => eq_encode_append_of_decode

/-- Settles O4: an opcode byte is one row of R56's table, and R57 lists the empty places of the matrix. -/
theorem oneOpcodePerOperationAndMode : Obligations.OneOpcodePerOperationAndMode :=
  ⟨opcode_eq_iff,
    fun _ _ _ _ _ i j _ _ hi hj => (opcode_eq_iff i j).1 ((opcode_of_decode hi).trans (opcode_of_decode hj).symm),
    decode_three_cases, rfl, unassignedOpcodes_nodup⟩

/-- Settles O9: a step on a byte outside R57's list completes, so it is no fault. -/
theorem unassignedOpcodeIsReported : Obligations.UnassignedOpcodeIsReported := by
  intro s
  rcases step_next_or_fault s with ⟨hop, t, ht⟩ | ⟨hop, hf⟩
  · simp [hop, ht]
  · refine ⟨by simp [hop, hf], fun f h => ⟨?_, run_succ_of_fault hf⟩⟩
    simpa [hf] using h.symm

/-- Settles O10: every instruction answers a next state, so only R57's list stops a step. -/
theorem stepCompletesOrReports : Obligations.StepCompletesOrReports :=
  ⟨exec_next, fun s => (step_next_or_fault s).imp And.right And.right⟩

/-- Settles O53: the clauses of `CommitsPc`, which every instruction keeps. -/
theorem programCounterCommit : Obligations.ProgramCounterCommit := by
  intro i s
  obtain ⟨t, ht, hpc⟩ := exec_commitsPc i s
  exact ⟨t, ht, hpc.advance, hpc.taken, hpc.jump, hpc.rts, hpc.rti, hpc.brk⟩

/-- Settles O3: the table's rows are the decoder's and the encoder's. -/
theorem opcodeMapIsTheTable : Obligations.OpcodeMapIsTheTable :=
  ⟨fun _ _ b1 b2 hrow => decode_row hrow b1 b2, opcode_mem_opcodesOf, rfl, fun mn => by cases mn <;> decide⟩

/-- Settles O5: the operand bytes and the table of R52, mode by mode. -/
theorem lengthIsFixedByMode : Obligations.LengthIsFixedByMode := fun i => ⟨encode_length i, i.mode.tag_length_mem⟩

/-- Settles O6: each word is decoded. -/
theorem sampleWordsDecode : Obligations.SampleWordsDecode :=
  ⟨rfl, rfl, rfl, rfl, rfl, rfl, rfl, rfl, rfl, rfl, rfl, rfl⟩

/-- Settles O7: the three bytes are the fetched ones. -/
theorem stepRunsTheDecodedInstruction : Obligations.StepRunsTheDecodedInstruction :=
  fun _ _ _ => step_of_decode_fetchBytes

end Sys2Proof.Machine
end

section
/-!
The addressing modes (spec/40_addressing_modes.md): effective addresses in plain arithmetic, and the operations that have
a mode.
-/

namespace Sys2Proof

/-! ### Extension, byte order and their wraps in plain arithmetic (R8) -/

theorem zext16_eq_ofNat (b : Byte) : zext16 b = BitVec.ofNat 16 b.toNat := by
  rw [← zext16_toNat, BitVec.ofNat_toNat, BitVec.setWidth_eq]

/-- A sum of two bytes is an address of page 0 whatever the carry. -/
theorem zext16_add_eq_ofNat (b c : Byte) : zext16 (b + c) = BitVec.ofNat 16 ((b.toNat + c.toNat) % 256) := by
  rw [zext16_eq_ofNat, BitVec.toNat_add]

theorem sext16_eq_ofInt (b : Byte) : sext16 b = BitVec.ofInt 16 b.toInt := rfl

theorem hilo_eq_ofNat (hi lo : Byte) : hilo hi lo = BitVec.ofNat 16 (hi.toNat * 256 + lo.toNat) := by
  rw [← hilo_toNat, BitVec.ofNat_toNat, BitVec.setWidth_eq]

/-- An indexed absolute address wraps at the top of memory. -/
theorem hilo_add_zext16_eq_ofNat (hi lo b : Byte) :
    hilo hi lo + zext16 b = BitVec.ofNat 16 ((hi.toNat * 256 + lo.toNat + b.toNat) % 65536) := by
  apply BitVec.eq_of_toNat_eq
  rw [BitVec.toNat_add, hilo_toNat, zext16_toNat, BitVec.toNat_ofNat]
  omega

theorem hilo_and_hilo (hi lo hi' lo' : Byte) : hilo hi lo &&& hilo hi' lo' = hilo (hi &&& hi') (lo &&& lo') :=
  BitVec.and_append

theorem hilo_or_hilo (hi lo hi' lo' : Byte) : hilo hi lo ||| hilo hi' lo' = hilo (hi ||| hi') (lo ||| lo') :=
  BitVec.or_append

/-- Masking joins the high byte of one word to the low byte of another. -/
theorem and_or_and_eq_hilo (u v : Word) : (u &&& 0xFF00) ||| (v &&& 0x00FF) = hilo (hi8 u) (lo8 v) := by
  calc (u &&& 0xFF00) ||| (v &&& 0x00FF)
    _ = (hilo (hi8 u) (lo8 u) &&& hilo (.allOnes 8) 0#8) ||| (hilo (hi8 v) (lo8 v) &&& hilo 0#8 (.allOnes 8)) := by
      rw [hilo_hi8_lo8, hilo_hi8_lo8]
      rfl
    _ = hilo (hi8 u) (lo8 v) := by
      simp only [hilo_and_hilo, hilo_or_hilo, BitVec.and_allOnes, BitVec.and_zero, BitVec.or_zero, BitVec.zero_or]

end Sys2Proof

namespace Sys2Proof.Machine

/-! ### Pointers (R81 to R83) -/

theorem zeroPagePointer_toNat (s : State) (z : Byte) : (zeroPagePointer s z).toNat =
    (s.readByte (zext16 z)).toNat + 256 * (s.readByte (zext16 (z + 1))).toNat := by
  rw [zeroPagePointer, hilo_toNat]
  omega

theorem indirectTarget_toNat (ptr : Word) (s : State) : (indirectTarget ptr s).toNat =
    (s.readByte ptr).toNat + 256 * (s.readByte (samePageNext ptr)).toNat := by
  rw [indirectTarget, hilo_toNat]
  omega

theorem samePageNext_toNat (ptr : Word) :
    (samePageNext ptr).toNat = ptr.toNat / 256 * 256 + (ptr.toNat + 1) % 256 := by
  rw [samePageNext, and_or_and_eq_hilo, hilo_toNat, hi8_toNat, lo8_toNat]
  bv_omega

theorem samePageNext_eq_ofNat (ptr : Word) :
    samePageNext ptr = BitVec.ofNat 16 (ptr.toNat / 256 * 256 + (ptr.toNat + 1) % 256) := by
  rw [← samePageNext_toNat, BitVec.ofNat_toNat, BitVec.setWidth_eq]

/-- Only a pointer to the last byte of its page meets the wrap. -/
theorem samePageNext_eq_add_one {ptr : Word} (h : ptr.toNat % 256 ≠ 255) : samePageNext ptr = ptr + 1 := by
  have hnext := samePageNext_toNat ptr
  bv_omega

theorem indirectTarget_eq_readWord {ptr : Word} (h : ptr.toNat % 256 ≠ 255) (s : State) :
    indirectTarget ptr s = s.readWord ptr := by
  rw [indirectTarget, samePageNext_eq_add_one h, State.readWord]

/-! ### Branch targets (R77) -/

theorem relativeTarget_eq_ofInt (b1 : Byte) (s : State) :
    relativeTarget b1 s = BitVec.ofInt 16 ((s.pc.toNat : Int) + 2 + b1.toInt) := by
  rw [relativeTarget, sext16_eq_ofInt, BitVec.ofInt_add, BitVec.ofInt_add, BitVec.ofInt_natCast, BitVec.ofNat_toNat,
    BitVec.setWidth_eq]
  rfl

/-! ### Which operations have a mode (R52, R56) -/

/-- The table of R56 read by column: the operations that have a mode, with their opcodes. -/
def rowsWithMode (tag : ModeTag) : List (Mnemonic × Byte) :=
  allMnemonics.flatMap fun mn => (opcodesOf mn).filterMap fun row => if row.1 = tag then some (mn, row.2) else none

theorem mem_allMnemonics (mn : Mnemonic) : mn ∈ allMnemonics := by cases mn <;> decide

/-- Every instruction stands in the column of its mode. -/
theorem mem_rowsWithMode (i : Instr) : (i.mnemonic, i.opcode) ∈ rowsWithMode i.mode.tag :=
  List.mem_flatMap.2 ⟨_, mem_allMnemonics _, List.mem_filterMap.2 ⟨_, opcode_mem_opcodesOf i, if_pos rfl⟩⟩

/-- What is true of every row of a mode's column is true of every instruction in that mode. -/
theorem of_mode_tag_eq (tag : ModeTag) (P : Mnemonic × Byte → Prop) (hP : ∀ row ∈ rowsWithMode tag, P row)
    {i : Instr} (h : i.mode.tag = tag) : P (i.mnemonic, i.opcode) :=
  hP _ (h ▸ mem_rowsWithMode i)

/-- The four instructions over the accumulator are one shift each. -/
theorem exec_acc_does {i : Instr} (h : i.mode = .acc) (s : State) : Does [.A] [.C, .Z, .N] [] s (exec i s) := by
  cases i with
  | aslAcc | lsrAcc | rolAcc | rorAcc => exact shift_acc_does _ s
  | _ => cases h

/-! ### The statements about the addressing modes -/

/-- Settles O23: both pointer bytes are read at zero-extended bytes, so at addresses below 256. -/
theorem zeroPagePointersStayInPageZero : Obligations.ZeroPagePointersStayInPageZero := by
  intro s b1
  refine ⟨⟨zeroPagePointer s (b1 + s.x), rfl, ?_⟩, ⟨zeroPagePointer s b1 + zext16 s.y, rfl, ?_⟩, rfl, rfl⟩
  · have hnext : zext16 (b1 + s.x + 1) = BitVec.ofNat 16 ((b1.toNat + s.x.toNat + 1) % 256) := by
      rw [zext16_add_eq_ofNat, BitVec.toNat_add]
      exact congrArg _ (Nat.mod_add_mod ..)
    rw [zeroPagePointer_toNat, zext16_add_eq_ofNat, hnext]
  · rw [BitVec.toNat_add, zeroPagePointer_toNat, zext16_toNat, zext16_eq_ofNat, zext16_add_eq_ofNat]
    rfl

/-- Settles O24: the target in integers, and the column of the relative mode. -/
theorem relativeTargetIsSigned : Obligations.RelativeTargetIsSigned := by
  intro s b1
  refine ⟨congrArg Resolved.address (relativeTarget_eq_ofInt b1 s), rfl, fun i h => ?_⟩
  exact of_mode_tag_eq .rel (·.1 ∈ _) (by decide) (congrArg Mode.tag h)

/-- Settles O19: three columns of the table, and the frame of a shift over the accumulator. -/
theorem impliedAccumulatorImmediateModes : Obligations.ImpliedAccumulatorImmediateModes := by
  intro s b1
  refine ⟨⟨rfl, rfl⟩, ⟨rfl, rfl, rfl⟩, ⟨rfl, rfl, rfl⟩, fun i h => ?_, fun i h => ⟨?_, ?_⟩, fun i h => ?_⟩
  · exact of_mode_tag_eq .imp (·.1 ∈ _) (by decide) (congrArg Mode.tag h)
  · exact of_mode_tag_eq .acc (· ∈ _) (by decide) (congrArg Mode.tag h)
  · obtain ⟨t, ht, hframe, -⟩ := exec_acc_does h s
    exact ⟨t, ht, hframe⟩
  · exact of_mode_tag_eq .imm (·.1 ∉ _) (by decide) (congrArg Mode.tag h)

/-- Settles O20: zero-extended sums of bytes, and the column of Zero Page,Y. -/
theorem zeroPageModesStayInPageZero : Obligations.ZeroPageModesStayInPageZero := by
  intro s b1
  refine ⟨congrArg Resolved.address (zext16_eq_ofNat b1), congrArg Resolved.address (zext16_add_eq_ofNat b1 s.x),
    congrArg Resolved.address (zext16_add_eq_ofNat b1 s.y), rfl, rfl, rfl, fun i h => ?_⟩
  exact of_mode_tag_eq .zpy (· ∈ _) (by decide) (congrArg Mode.tag h)

/-- Settles O21: sums of words, and the jump clause of `CommitsPc`. -/
theorem absoluteModesWrapAtTheTop : Obligations.AbsoluteModesWrapAtTheTop := by
  intro s b1 b2
  refine ⟨congrArg Resolved.address (hilo_eq_ofNat b2 b1),
    congrArg Resolved.address (hilo_add_zext16_eq_ofNat b2 b1 s.x),
    congrArg Resolved.address (hilo_add_zext16_eq_ofNat b2 b1 s.y), rfl, rfl, rfl, fun i hmode hmn => ?_⟩
  obtain ⟨t, ht, hpc⟩ := exec_commitsPc i s
  exact ⟨t, ht, hpc.jump _ hmn (congrArg (resolve · s) hmode)⟩

/-- Settles O22: the target's high byte is read at `samePageNext`, and the column of the indirect mode. -/
theorem indirectJumpStaysInThePointersPage : Obligations.IndirectJumpStaysInThePointersPage := by
  intro s ptr
  refine ⟨⟨indirectTarget ptr s, rfl, ?_, fun h => indirectTarget_eq_readWord h s, _, rfl, rfl⟩, rfl, fun i h => ?_⟩
  · rw [indirectTarget_toNat, samePageNext_eq_ofNat]
  · exact of_mode_tag_eq .ind (fun row => row.1 = .JMP ∧ row.2 = 0x6C) (by decide) (congrArg Mode.tag h)

end Sys2Proof.Machine
end

section
/-!
The flag computation and the ALU (spec/41_flags_alu.md): the adder, the subtractor, the comparison and the four shift
functions in plain arithmetic.
-/

namespace Sys2Proof.Machine

/-! ### The sign bit of a byte, and the complement in plain arithmetic -/

theorem msb_eq_getLsbD_seven (v : Byte) : v.msb = v.getLsbD 7 := BitVec.msb_eq_getLsbD_last v

theorem xor_FF_toNat (m : Byte) : (m ^^^ 0xFF).toNat = 255 - m.toNat := by
  have hnot : m ^^^ 0xFF = ~~~m := BitVec.xor_allOnes
  rw [hnot, BitVec.toNat_not]

theorem xor_FF_toInt (m : Byte) : (m ^^^ 0xFF).toInt = -1 - m.toInt := by
  have hm := m.isLt
  rw [BitVec.toInt_eq_toNat_cond, BitVec.toInt_eq_toNat_cond, xor_FF_toNat]
  split <;> split <;> omega

/-! ### The adder (R92, R95, R96) -/

theorem add8_result_toNat (a b : Byte) (cin : Bool) :
    (add8 a b cin).result.toNat = (a.toNat + b.toNat + cin.toNat) % 256 := BitVec.toNat_ofNat _ _

theorem add8_carry_iff (a b : Byte) (cin : Bool) :
    (add8 a b cin).carry = true ↔ a.toNat + b.toNat + cin.toNat > 255 := decide_eq_true_iff

theorem add8_overflow_eq_getLsbD (a b : Byte) (cin : Bool) : (add8 a b cin).overflow =
    ((a ^^^ (add8 a b cin).result) &&& (b ^^^ (add8 a b cin).result)).getLsbD 7 := msb_eq_getLsbD_seven _

/-- The overflow bit is 1 when neither operand has the sign of the result. -/
theorem add8_overflow_iff_msb (a b : Byte) (cin : Bool) : (add8 a b cin).overflow = true ↔
    a.msb ≠ (add8 a b cin).result.msb ∧ b.msb ≠ (add8 a b cin).result.msb := by
  simp [add8]

/-- A byte's sign bit is 1 from 128 on, where `signed8` takes 256 off it. -/
theorem add8_overflow_iff_toInt (a b : Byte) (cin : Bool) : (add8 a b cin).overflow = true ↔
    a.toInt + b.toInt + (cin.toNat : Int) < -128 ∨ 127 < a.toInt + b.toInt + (cin.toNat : Int) := by
  have ha := a.isLt
  have hb := b.isLt
  have hc := cin.toNat_le
  have hr := add8_result_toNat a b cin
  simp only [add8_overflow_iff_msb, BitVec.msb_eq_decide, BitVec.toInt_eq_toNat_cond, ne_eq, decide_eq_decide]
  split <;> split <;> omega

/-! ### The subtractor (R97) -/

theorem sub8_result_toNat (a m : Byte) (cin : Bool) :
    ((sub8 a m cin).result.toNat : Int) = ((a.toNat : Int) - m.toNat - (1 - cin.toNat)) % 256 := by
  have hm := m.isLt
  rw [sub8, add8_result_toNat, xor_FF_toNat]
  omega

theorem sub8_carry_iff (a m : Byte) (cin : Bool) :
    (sub8 a m cin).carry = true ↔ 0 ≤ (a.toNat : Int) - m.toNat - (1 - cin.toNat) := by
  have hm := m.isLt
  rw [sub8, add8_carry_iff, xor_FF_toNat]
  omega

theorem sub8_overflow_iff_toInt (a m : Byte) (cin : Bool) : (sub8 a m cin).overflow = true ↔
    a.toInt - m.toInt - (1 - (cin.toNat : Int)) < -128 ∨ 127 < a.toInt - m.toInt - (1 - (cin.toNat : Int)) := by
  rw [sub8, add8_overflow_iff_toInt, xor_FF_toInt]
  omega

/-- With carry in 1 nothing is borrowed beforehand: no borrow occurs iff the byte taken off is not the greater one. -/
theorem sub8_true_carry_iff (a m : Byte) : (sub8 a m true).carry = true ↔ m.toNat ≤ a.toNat := by
  rw [sub8_carry_iff, Bool.toNat_true]
  omega

theorem sub8_true_carry (a m : Byte) : (sub8 a m true).carry = decide (m.toNat ≤ a.toNat) := by
  rw [Bool.eq_iff_iff, sub8_true_carry_iff, decide_eq_true_iff]

theorem sub8_true_result (a m : Byte) : (sub8 a m true).result = a - m := by
  have h := sub8_result_toNat a m true
  rw [Bool.toNat_true] at h
  bv_omega

/-! ### The comparison (R94, R98) -/

theorem cmp8_eq_sub8 (p r m : Byte) :
    cmp8 p r m = setZN (setFlag p .C (sub8 r m true).carry) (sub8 r m true).result := by
  rw [sub8_true_carry, sub8_true_result, cmp8]

/-- The flags after a comparison, once. -/
theorem getFlag_cmp8 (p r m : Byte) (f : Flag) : getFlag (cmp8 p r m) f =
    if f = .N then (r - m).msb else if f = .Z then r - m == 0
    else if f = .C then decide (m.toNat ≤ r.toNat) else getFlag p f := by
  rw [cmp8, getFlag_setZN, getFlag_setFlag]

/-! ### The shift functions (R93, R99) -/

theorem asl8_result_toNat (v : Byte) (c : Bool) : (asl8 v c).result.toNat = 2 * v.toNat % 256 := by
  rw [asl8, BitVec.toNat_shiftLeft, Nat.shiftLeft_eq, Nat.mul_comm]

theorem lsr8_result_toNat (v : Byte) (c : Bool) : (lsr8 v c).result.toNat = v.toNat / 2 := by
  rw [lsr8, BitVec.toNat_ushiftRight, Nat.shiftRight_eq_div_pow]

/-- A left shift leaves bit 0 free, so the old carry is added there. -/
theorem rol8_result_toNat (v : Byte) (c : Bool) : (rol8 v c).result.toNat = 2 * v.toNat % 256 + c.toNat := by
  have hbit : (if c then 0x01 else 0x00 : Byte).toNat = c.toNat := by cases c <;> rfl
  have heven : 2 * v.toNat % 256 = 2 ^ 1 * (v.toNat % 128) := by omega
  calc (rol8 v c).result.toNat
    _ = (asl8 v c).result.toNat ||| c.toNat := by rw [rol8, asl8, BitVec.toNat_or, hbit]
    _ = 2 ^ 1 * (v.toNat % 128) ||| c.toNat := by rw [asl8_result_toNat, heven]
    _ = 2 * v.toNat % 256 + c.toNat := by rw [← Nat.two_pow_add_eq_or_of_lt c.toNat_lt, heven]

/-- A right shift leaves bit 7 free, so the old carry is added there. -/
theorem ror8_result_toNat (v : Byte) (c : Bool) : (ror8 v c).result.toNat = v.toNat / 2 + 128 * c.toNat := by
  have hbit : (if c then 0x80 else 0x00 : Byte).toNat = 2 ^ 7 * c.toNat := by cases c <;> rfl
  have hlow : v.toNat / 2 < 2 ^ 7 := by have := v.isLt; omega
  calc (ror8 v c).result.toNat
    _ = (lsr8 v c).result.toNat ||| 2 ^ 7 * c.toNat := by rw [ror8, lsr8, BitVec.toNat_or, hbit]
    _ = 2 ^ 7 * c.toNat + v.toNat / 2 := by
      rw [lsr8_result_toNat, Nat.or_comm, Nat.two_pow_add_eq_or_of_lt hlow]
    _ = v.toNat / 2 + 128 * c.toNat := Nat.add_comm _ _

/-- Nine bits rotate, so the rotation to the right undoes the one to the left. -/
theorem ror8_rol8 (v : Byte) (c : Bool) :
    ror8 (rol8 v c).result (rol8 v c).carry = { result := v, carry := c } := by
  have hcarry : (rol8 v c).carry.toNat = v.toNat / 2 ^ 7 % 2 := Nat.toNat_testBit v.toNat 7
  have hrol := rol8_result_toNat v c
  have hc := c.toNat_lt
  have hv := v.isLt
  have hresult : (ror8 (rol8 v c).result (rol8 v c).carry).result = v := by
    apply BitVec.eq_of_toNat_eq
    rw [ror8_result_toNat]
    omega
  have hout : (rol8 v c).result.getLsbD 0 = c := by cases c <;> simp [rol8]
  exact congrArg₂ Shifted.mk hresult hout

/-- The flags an instruction over a shift function takes from its result (R134). -/
theorem shift_flags (f : Byte → Bool → Shifted) (d : Dst) (s : State) : ∃ t, shift f d s = .next t ∧
    t.flag .C = (f (d.operand s) (s.flag .C)).carry ∧
    t.flag .Z = decide ((f (d.operand s) (s.flag .C)).result = 0) ∧
    t.flag .N = (f (d.operand s) (s.flag .C)).result.getLsbD 7 := by
  refine ⟨_, rfl, ?_, ?_, ?_⟩ <;> rw [flag_advance, State.flag_setZN]
  · simp [State.flag_setFlag]
  · simp [beq_eq_decide]
  · simp [msb_eq_getLsbD_seven]

/-! ### The statements about the ALU -/

/-- Settles O26: the sum by the word's own reduction, the overflow by the signs. -/
theorem adderSumCarryOverflow : Obligations.AdderSumCarryOverflow := fun a b cin =>
  ⟨add8_result_toNat a b cin, add8_carry_iff a b cin, add8_overflow_eq_getLsbD a b cin, add8_overflow_iff_toInt a b cin⟩

/-- Settles O27: the adder on the complement `255 - m`. -/
theorem subtractorBorrowOverflow : Obligations.SubtractorBorrowOverflow := fun a m cin =>
  ⟨rfl, sub8_result_toNat a m cin, sub8_carry_iff a m cin, sub8_overflow_iff_toInt a m cin, sub8_true_carry_iff a m⟩

/-- Settles O28: the flags after a comparison, and its difference as the subtractor's. -/
theorem compareIsSubtractionThrownAway : Obligations.CompareIsSubtractionThrownAway := by
  intro p r m
  have hzero : (r - m == 0) = decide (r = m) := by rw [beq_eq_decide, decide_eq_decide, sub_eq_zero]
  refine ⟨getFlag_cmp8 p r m .C, (getFlag_cmp8 p r m .Z).trans hzero,
    (getFlag_cmp8 p r m .N).trans (msb_eq_getLsbD_seven _), fun f hf => ?_, cmp8_eq_sub8 p r m⟩
  simp only [List.mem_cons, List.not_mem_nil, or_false, not_or] at hf
  simp [getFlag_cmp8, hf]

/-- Settles O29: each shift function in arithmetic, and the flags of the shared operation over any of them. -/
theorem shiftFunctions : Obligations.ShiftFunctions := fun v c =>
  ⟨⟨asl8_result_toNat v c, rfl⟩, ⟨lsr8_result_toNat v c, rfl⟩, ⟨rol8_result_toNat v c, rfl⟩,
    ⟨ror8_result_toNat v c, rfl⟩, ror8_rol8 v c, fun f _ => shift_flags f⟩

end Sys2Proof.Machine
end

section
/-!
The arithmetic instructions (spec/42_arithmetic.md): what taking a sum does to the state, and the eight modes of ADC and
of SBC as one operation over an operand each.
-/

namespace Sys2Proof.Machine

/-! ### Operations that only read their operand, by addressing mode (R84, R85) -/

/-- The addressing mode whose operand a read operation takes. -/
def Src.mode : Src → Mode
  | .imm b1 => .imm b1
  | .mem m => .mem m

@[simp] theorem Src.length_mode (src : Src) : src.mode.length = src.length := by cases src <;> rfl

/-- The resolver hands a read operation the operand it takes. -/
@[simp] theorem Src.resolve_mode_operand (src : Src) (s : State) :
    (resolve src.mode s).operand s = some (src.operand s) := by
  cases src <;> rfl

/-! ### Taking a sum (R110, R111) -/

/-- The flags after a sum is taken, once. -/
theorem flag_takeSum (sum : Sum) (s : State) (f : Flag) : (takeSum sum s).flag f =
    if f = .N then sum.result.msb else if f = .Z then sum.result == 0
    else if f = .V then sum.overflow else if f = .C then sum.carry else s.flag f := by
  simp only [takeSum, State.flag_setZN, State.flag_setFlag, State.flag_setReg]

/-- What R110 and R111 say of an instruction of length `len` that takes `sum`, from state `s` to state `t`. -/
structure TakesSum (sum : Sum) (len : Nat) (s t : State) : Prop where
  a : t.a = sum.result
  carry : t.flag .C = sum.carry
  overflow : t.flag .V = sum.overflow
  zero : t.flag .Z = decide (t.a = 0)
  negative : t.flag .N = t.a.getLsbD 7
  pc : t.pc = s.pc + BitVec.ofNat 16 len
  frame : Frame [.A] [.C, .V, .Z, .N] [] s t

theorem advance_takeSum_takesSum (sum : Sum) (len : Nat) (s : State) :
    TakesSum sum len s (advance len (takeSum sum s)) where
  a := rfl
  carry := flag_takeSum sum s .C
  overflow := flag_takeSum sum s .V
  zero := (flag_takeSum sum s .Z).trans (beq_eq_decide ..)
  negative := (flag_takeSum sum s .N).trans (msb_eq_getLsbD_seven _)
  pc := rfl
  frame := (takeSum_frame sum s).trans (frame_advance len _)

/-! ### The instructions -/

/-- The eight ADC instructions are one operation over the operand of their mode. -/
theorem exists_src_of_mnemonic_ADC {i : Instr} (h : i.mnemonic = .ADC) :
    ∃ src : Src, i.mode = src.mode ∧ exec i = adc src := by
  cases i with
  | adcImm b1 => exact ⟨.imm b1, rfl, rfl⟩
  | adcZp | adcZpx | adcAbs | adcAbsx | adcAbsy | adcIndx | adcIndy => exact ⟨.mem _, rfl, rfl⟩
  | _ => cases h

/-- The eight SBC instructions are one operation over the operand of their mode. -/
theorem exists_src_of_mnemonic_SBC {i : Instr} (h : i.mnemonic = .SBC) :
    ∃ src : Src, i.mode = src.mode ∧ exec i = sbc src := by
  cases i with
  | sbcImm b1 => exact ⟨.imm b1, rfl, rfl⟩
  | sbcZp | sbcZpx | sbcAbs | sbcAbsx | sbcAbsy | sbcIndx | sbcIndy => exact ⟨.mem _, rfl, rfl⟩
  | _ => cases h

/-- ADC takes the sum of A, its operand and the carry. -/
theorem exec_takesSum_of_mnemonic_ADC {i : Instr} (h : i.mnemonic = .ADC) (s : State) :
    ∃ m t, (resolve i.mode s).operand s = some m ∧ exec i s = .next t ∧
      TakesSum (add8 s.a m (s.flag .C)) i.length s t := by
  obtain ⟨src, hmode, hexec⟩ := exists_src_of_mnemonic_ADC h
  rw [Instr.length, hmode, hexec, src.length_mode]
  exact ⟨_, _, src.resolve_mode_operand s, rfl, advance_takeSum_takesSum ..⟩

/-- SBC takes the difference of A and its operand with the carry as no borrow. -/
theorem exec_takesSum_of_mnemonic_SBC {i : Instr} (h : i.mnemonic = .SBC) (s : State) :
    ∃ m t, (resolve i.mode s).operand s = some m ∧ exec i s = .next t ∧
      TakesSum (sub8 s.a m (s.flag .C)) i.length s t := by
  obtain ⟨src, hmode, hexec⟩ := exists_src_of_mnemonic_SBC h
  rw [Instr.length, hmode, hexec, src.length_mode]
  exact ⟨_, _, src.resolve_mode_operand s, rfl, advance_takeSum_takesSum ..⟩

/-! ### The statements about the arithmetic instructions -/

/-- Settles O30: ADC takes the adder's sum, whose value, carry and overflow are known in arithmetic. -/
theorem adcAddsWithCarry : Obligations.AdcAddsWithCarry := by
  intro i s h
  obtain ⟨m, t, hm, ht, hsum⟩ := exec_takesSum_of_mnemonic_ADC h s
  refine ⟨h ▸ opcode_mem_opcodesOf i, m, t, hm, ht, ?_, ?_, ?_, hsum.zero, hsum.negative, hsum.pc, hsum.frame⟩
  · rw [hsum.a, add8_result_toNat]
  · rw [hsum.carry, Bool.eq_iff_iff, add8_carry_iff, decide_eq_true_iff]
  · rw [hsum.overflow, add8_overflow_iff_toInt]

/-- Settles O31: SBC takes the subtractor's difference, whose value, carry and overflow are known in arithmetic. -/
theorem sbcSubtractsWithBorrow : Obligations.SbcSubtractsWithBorrow := by
  intro i s h
  obtain ⟨m, t, hm, ht, hsum⟩ := exec_takesSum_of_mnemonic_SBC h s
  refine ⟨h ▸ opcode_mem_opcodesOf i, m, t, hm, ht, ?_, ?_, ?_, hsum.zero, hsum.negative, hsum.pc, hsum.frame⟩
  · rw [hsum.a, sub8_result_toNat]
  · rw [hsum.carry, Bool.eq_iff_iff, sub8_carry_iff, decide_eq_true_iff]
  · rw [hsum.overflow, sub8_overflow_iff_toInt]

end Sys2Proof.Machine
end

section
/-!
The logical instructions (spec/43_logical.md): what taking a byte into a register does to the state, the eight modes each of
AND, ORA and EOR as one operation over an operand, and the three flags of BIT.
-/

namespace Sys2Proof.Machine

/-! ### Taking a byte into a register, with Z and N (R91) -/

/-- What an instruction of length `len` does that takes `v` into register `r` with `SetZN` (R91), from state `s` to state `t`. -/
structure TakesByte (r : Reg) (v : Byte) (len : Nat) (s t : State) : Prop where
  reg : t.reg r = v
  zero : t.flag .Z = decide (t.reg r = 0)
  negative : t.flag .N = (t.reg r).getLsbD 7
  pc : t.pc = s.pc + BitVec.ofNat 16 len
  frame : Frame [r] [.Z, .N] [] s t

theorem advance_setZN_setReg_takesByte (r : Reg) (v : Byte) (len : Nat) (s : State) :
    TakesByte r v len s (advance len ((s.setReg r v).setZN v)) where
  reg := by simp
  zero := by simp [State.flag_setZN, beq_eq_decide]
  negative := by simp [State.flag_setZN, msb_eq_getLsbD_seven]
  pc := by simp
  frame := ((frame_setReg s r v).trans (frame_setZN _ v)).trans (frame_advance len _)

/-! ### AND, ORA and EOR (R120, R121, R122) -/

/-- What a logical operation makes of A and its operand (R101); every other operation leaves A. -/
def bitwiseOf : Mnemonic → Byte → Byte → Byte
  | .AND => (· &&& ·)
  | .ORA => (· ||| ·)
  | .EOR => (· ^^^ ·)
  | _ => fun a _ => a

/-- The 24 logical instructions are one operation over a bitwise function and the operand of their mode. -/
theorem exists_src_of_logical {i : Instr} (h : i.mnemonic ∈ ([.AND, .ORA, .EOR] : List Mnemonic)) :
    ∃ src : Src, i.mode = src.mode ∧ exec i = logic (bitwiseOf i.mnemonic) src := by
  cases i with
  | andImm b1 | oraImm b1 | eorImm b1 => exact ⟨.imm b1, rfl, rfl⟩
  | andZp | andZpx | andAbs | andAbsx | andAbsy | andIndx | andIndy
  | oraZp | oraZpx | oraAbs | oraAbsx | oraAbsy | oraIndx | oraIndy
  | eorZp | eorZpx | eorAbs | eorAbsx | eorAbsy | eorIndx | eorIndy => exact ⟨.mem _, rfl, rfl⟩
  | _ => simp [Instr.mnemonic] at h

/-- A logical instruction takes its bitwise function of A and its operand into A. -/
theorem exec_takesByte_of_logical {i : Instr} (h : i.mnemonic ∈ ([.AND, .ORA, .EOR] : List Mnemonic)) (s : State) :
    ∃ m t, (resolve i.mode s).operand s = some m ∧ exec i s = .next t ∧
      TakesByte .A (bitwiseOf i.mnemonic s.a m) i.length s t := by
  obtain ⟨src, hmode, hexec⟩ := exists_src_of_logical h
  rw [Instr.length, hmode, hexec, src.length_mode]
  exact ⟨_, _, src.resolve_mode_operand s, rfl, advance_setZN_setReg_takesByte ..⟩

/-! ### BIT (R123) -/

/-- The flags after BIT, once. -/
theorem getFlag_bitFlags (p a m : Byte) (f : Flag) : getFlag (bitFlags p a m) f =
    if f = .V then m.getLsbD 6 else if f = .N then m.getLsbD 7
    else if f = .Z then a &&& m == 0 else getFlag p f := by
  simp only [bitFlags, getFlag_setFlag]

/-- Both BIT instructions are one operation over the memory operand of their mode. -/
theorem exists_mem_of_mnemonic_BIT {i : Instr} (h : i.mnemonic = .BIT) :
    ∃ m : MemMode, i.mode = .mem m ∧ exec i = bitTest m := by
  cases i with
  | bitZp | bitAbs => exact ⟨_, rfl, rfl⟩
  | _ => cases h

/-! ### The statements about the logical instructions -/

/-- Settles O32: A takes the bitwise function of the operation. -/
theorem logicalOperationsOnA : Obligations.LogicalOperationsOnA := by
  intro i s h
  obtain ⟨m, t, hm, ht, htakes⟩ := exec_takesByte_of_logical h s
  have ha : t.a = bitwiseOf i.mnemonic s.a m := htakes.reg
  refine ⟨opcode_mem_opcodesOf i, m, t, hm, ht, fun hmn => ?_, fun hmn => ?_, fun hmn => ?_, htakes.zero,
    htakes.negative, htakes.pc, htakes.frame⟩ <;> rw [ha, hmn, bitwiseOf]

/-- Settles O33: BIT loads P with `bitFlags` and has the frame of `bitTest`. -/
theorem bitTestsMemoryAgainstA : Obligations.BitTestsMemoryAgainstA := by
  intro i s h
  obtain ⟨mode, hmode, hexec⟩ := exists_mem_of_mnemonic_BIT h
  obtain ⟨t, ht, hframe, -⟩ := bitTest_does mode s
  refine ⟨h ▸ opcode_mem_opcodesOf i, s.readByte (mode.ea s), t, by rw [hmode, resolve, Resolved.operand],
    by rw [hexec, ht], ?_⟩
  have hlen : i.length = mode.length := congrArg Mode.length hmode
  cases ht
  exact ⟨(getFlag_bitFlags _ _ _ .Z).trans (beq_eq_decide ..), getFlag_bitFlags _ _ _ .N, getFlag_bitFlags _ _ _ .V,
    by rw [advance_pc, State.setP_pc, hlen], hframe⟩

end Sys2Proof.Machine
end

section
/-!
The shifts and rotates (spec/44_shifts.md): the twenty instructions as one operation over a shift function and the place of
their operand, and the nine bits, operand and carry, that a rotation turns.
-/

namespace Sys2Proof.Machine

/-! ### Operations that write back where they read, by addressing mode (R84, R85) -/

/-- The addressing mode whose operand a read-modify-write operation takes and replaces. -/
def Dst.mode : Dst → Mode
  | .acc => .acc
  | .mem m => .mem m

@[simp] theorem Dst.length_mode (d : Dst) : d.mode.length = d.length := by cases d <;> rfl

/-- The resolver hands a read-modify-write operation the operand it takes. -/
@[simp] theorem Dst.resolve_mode_operand (d : Dst) (s : State) :
    (resolve d.mode s).operand s = some (d.operand s) := by
  cases d <;> rfl

/-- After the write, the place the operand was read from holds the result. -/
theorem WrittenBack.operand {i : Instr} {v : Byte} {flags : List Flag} {s t : State} (h : WrittenBack i v flags s t) :
    (resolve i.mode s).operand t = some v := by
  rw [WrittenBack] at h
  split at h
  next hres => exact hres ▸ congrArg some h.1
  next hres => exact hres ▸ congrArg some h.1
  all_goals exact h.elim

/-- Only A or one byte of memory is written back to, so X, which may index the address, stays. -/
theorem WrittenBack.x {i : Instr} {v : Byte} {flags : List Flag} {s t : State} (h : WrittenBack i v flags s t) :
    t.x = s.x := by
  rw [WrittenBack] at h
  split at h
  next => exact h.2.registers .X (by decide)
  next => exact h.2.registers .X (by decide)
  all_goals exact h.elim

/-! ### Shifting in place (R134) -/

/-- What R130 to R134 say of an instruction whose shift function answers `r`, from state `s` to state `t`. -/
structure ShiftsInPlace (i : Instr) (r : Shifted) (s t : State) : Prop where
  written : WrittenBack i r.result [.C, .Z, .N] s t
  carry : t.flag .C = r.carry
  zero : t.flag .Z = decide (r.result = 0)
  negative : t.flag .N = r.result.getLsbD 7
  pc : t.pc = s.pc + BitVec.ofNat 16 i.length

theorem shift_writtenBack (f : Byte → Bool → Shifted) {i : Instr} {d : Dst} (hmode : i.mode = d.mode) {s t : State}
    (ht : shift f d s = .next t) :
    WrittenBack i (f (d.operand s) (s.flag .C)).result [.C, .Z, .N] s t := by
  rw [WrittenBack, hmode]
  cases d with
  | acc =>
    obtain ⟨_, hu, hframe, -⟩ := shift_acc_does f s
    cases ht
    cases hu
    exact ⟨rfl, hframe⟩
  | mem m =>
    obtain ⟨_, hu, hframe, -⟩ := shift_mem_does f m s
    cases ht
    cases hu
    exact ⟨s.readByte_writeByte_same (m.ea s) _, hframe⟩

theorem shift_pc {f : Byte → Bool → Shifted} {d : Dst} {s t : State} (ht : shift f d s = .next t) :
    t.pc = s.pc + BitVec.ofNat 16 d.length := by
  cases ht
  cases d <;> rfl

/-- The shift function of an operation (R99); every other operation leaves byte and carry. -/
def shiftOf : Mnemonic → Byte → Bool → Shifted
  | .ASL => asl8
  | .LSR => lsr8
  | .ROL => rol8
  | .ROR => ror8
  | _ => Shifted.mk

/-- The twenty shifts and rotates are one operation over a shift function and the place of their operand. -/
theorem exists_dst_of_shift {i : Instr} (h : i.mnemonic ∈ ([.ASL, .LSR, .ROL, .ROR] : List Mnemonic)) :
    ∃ d : Dst, i.mode = d.mode ∧ exec i = shift (shiftOf i.mnemonic) d := by
  cases i with
  | aslAcc | lsrAcc | rolAcc | rorAcc => exact ⟨.acc, rfl, rfl⟩
  | aslZp | aslZpx | aslAbs | aslAbsx | lsrZp | lsrZpx | lsrAbs | lsrAbsx
  | rolZp | rolZpx | rolAbs | rolAbsx | rorZp | rorZpx | rorAbs | rorAbsx => exact ⟨.mem _, rfl, rfl⟩
  | _ => simp [Instr.mnemonic] at h

/-- A shift or rotate leaves what its function makes of operand and carry where the operand stood. -/
theorem exec_shiftsInPlace {i : Instr} (h : i.mnemonic ∈ ([.ASL, .LSR, .ROL, .ROR] : List Mnemonic)) (s : State) :
    ∃ v t, (resolve i.mode s).operand s = some v ∧ exec i s = .next t ∧
      ShiftsInPlace i (shiftOf i.mnemonic v (s.flag .C)) s t := by
  obtain ⟨d, hmode, hexec⟩ := exists_dst_of_shift h
  obtain ⟨t, ht, hC, hZ, hN⟩ := shift_flags (shiftOf i.mnemonic) d s
  have hpc : t.pc = s.pc + BitVec.ofNat 16 i.length := by rw [shift_pc ht, Instr.length, hmode, d.length_mode]
  exact ⟨d.operand s, t, by rw [hmode, d.resolve_mode_operand], by rw [hexec, ht],
    shift_writtenBack _ hmode ht, hC, hZ, hN, hpc⟩

/-! ### The nine bits of a rotation (R132) -/

/-- One rotation to the left of a byte and the carry. -/
def rotateLeft (p : Shifted) : Shifted := rol8 p.result p.carry

/-- The nine bits of a byte and the carry, the carry on top. -/
def Shifted.bit (p : Shifted) (k : Fin 9) : Bool := if k = 8 then p.carry else p.result.getLsbD k

theorem Shifted.eq_of_bit_eq {p q : Shifted} (h : ∀ k, p.bit k = q.bit k) : p = q := by
  obtain ⟨v, c⟩ := p
  obtain ⟨w, d⟩ := q
  have hcarry : c = d := h 8
  have hresult : v = w := by
    refine BitVec.eq_of_getLsbD_eq fun j hj => ?_
    have hj8 : (⟨j, by omega⟩ : Fin 9) ≠ 8 := fun h' => hj.ne (congrArg Fin.val h')
    simpa only [bit, if_neg hj8] using h ⟨j, by omega⟩
  rw [hresult, hcarry]

theorem rol8_getLsbD_zero (v : Byte) (c : Bool) : (rol8 v c).result.getLsbD 0 = c := by
  cases c <;> simp [rol8]

theorem rol8_getLsbD_succ (v : Byte) (c : Bool) {j : Nat} (hj : j < 7) :
    (rol8 v c).result.getLsbD (j + 1) = v.getLsbD j := by
  have hj8 : j + 1 < 8 := by omega
  cases c <;> simpa [rol8] using fun _ => hj8

/-- A rotation moves each of the nine bits up one place, the topmost to the bottom. -/
theorem rotateLeft_bit (p : Shifted) (k : Fin 9) : (rotateLeft p).bit k = p.bit (k - 1) := by
  fin_cases k
  · exact rol8_getLsbD_zero p.result p.carry
  on_goal 8 => rfl
  all_goals exact rol8_getLsbD_succ p.result p.carry (by decide)

theorem iterate_rotateLeft_bit (n : Nat) (p : Shifted) (k : Fin 9) :
    (rotateLeft^[n] p).bit k = p.bit ((· - 1)^[n] k) := by
  induction n generalizing p with
  | zero => rfl
  | succ n ih => rw [Function.iterate_succ_apply, ih, rotateLeft_bit, Function.iterate_succ_apply']

/-- Nine places up among nine bits is no move. -/
theorem rotateLeft_nine (p : Shifted) : rotateLeft^[9] p = p := by
  have hround : ∀ k : Fin 9, (· - 1)^[9] k = k := by decide
  exact Shifted.eq_of_bit_eq fun k => by rw [iterate_rotateLeft_bit, hround]

/-! ### ROL again and again on one place -/

/-- The operand of `i` is the byte of `p`, and the carry flag is its carry. -/
structure HoldsOperandAndCarry (i : Instr) (p : Shifted) (s : State) : Prop where
  operand : (resolve i.mode s).operand s = some p.result
  carry : s.flag .C = p.carry

/-- ROL has no mode that reads its address from memory or by Y. -/
theorem resolve_eq_of_mnemonic_ROL {i : Instr} (h : i.mnemonic = .ROL) {s t : State} (hx : t.x = s.x) :
    resolve i.mode t = resolve i.mode s := by
  cases i with
  | rolAcc | rolZp | rolAbs => rfl
  | rolZpx | rolAbsx => simp only [Instr.mode, resolve, MemMode.ea, hx]
  | _ => cases h

theorem exec_rotateLeft_of_mnemonic_ROL {i : Instr} (h : i.mnemonic = .ROL) {p : Shifted} {s : State}
    (hp : HoldsOperandAndCarry i p s) : ∃ t, exec i s = .next t ∧ HoldsOperandAndCarry i (rotateLeft p) t := by
  obtain ⟨v, t, hv, ht, hshift⟩ := exec_shiftsInPlace (i := i) (by simp [h]) s
  obtain rfl : v = p.result := by simpa [hp.operand] using hv.symm
  rw [h, hp.carry] at hshift
  refine ⟨t, ht, ?_, hshift.carry⟩
  rw [resolve_eq_of_mnemonic_ROL h hshift.written.x]
  exact hshift.written.operand

theorem execTimes_rotateLeft_of_mnemonic_ROL {i : Instr} (h : i.mnemonic = .ROL) (n : Nat) {p : Shifted} {s : State}
    (hp : HoldsOperandAndCarry i p s) :
    ∃ u, execTimes n i s = .next u ∧ HoldsOperandAndCarry i (rotateLeft^[n] p) u := by
  induction n generalizing p s with
  | zero => exact ⟨s, rfl, hp⟩
  | succ n ih =>
    obtain ⟨t, ht, hpt⟩ := exec_rotateLeft_of_mnemonic_ROL h hp
    obtain ⟨u, hu, hpu⟩ := ih hpt
    exact ⟨u, by simp only [execTimes, ht, hu], hpu⟩

/-- Nine ROL on one place give back its byte and the carry. -/
theorem execTimes_nine_of_mnemonic_ROL {i : Instr} (h : i.mnemonic = .ROL) {s : State} {v : Byte}
    (hv : (resolve i.mode s).operand s = some v) :
    ∃ u, execTimes 9 i s = .next u ∧ (resolve i.mode u).operand u = some v ∧ u.flag .C = s.flag .C := by
  obtain ⟨u, hu, hpu⟩ := execTimes_rotateLeft_of_mnemonic_ROL h 9 (p := ⟨v, s.flag .C⟩) ⟨hv, rfl⟩
  rw [rotateLeft_nine] at hpu
  exact ⟨u, hu, hpu.operand, hpu.carry⟩

/-! ### The statements about the shifts and rotates -/

/-- Settles O34: ASL and LSR shift in place, and their functions are known in arithmetic. -/
theorem aslAndLsrShiftByOne : Obligations.AslAndLsrShiftByOne := by
  intro i s h
  obtain ⟨v, t, hv, ht, hshift⟩ := exec_shiftsInPlace (List.subset_append_left _ [.ROL, .ROR] h) s
  refine ⟨opcode_mem_opcodesOf i, v, _, t, hv, ht, fun hmn => ⟨?_, ?_⟩, fun hmn => ⟨?_, ?_⟩, hshift.written,
    hshift.zero, hshift.negative, hshift.pc⟩
  · rw [hmn, shiftOf, asl8_result_toNat]
  · rw [hshift.carry, hmn, shiftOf, asl8]
  · rw [hmn, shiftOf, lsr8_result_toNat]
  · rw [hshift.carry, hmn, shiftOf, lsr8]

/-- Settles O35: ROL and ROR shift in place through the carry, and nine ROL turn the nine bits once around. -/
theorem rolAndRorRotateThroughCarry : Obligations.RolAndRorRotateThroughCarry := by
  intro i s h
  obtain ⟨v, t, hv, ht, hshift⟩ := exec_shiftsInPlace (List.subset_append_right [.ASL, .LSR] _ h) s
  refine ⟨opcode_mem_opcodesOf i, v, _, t, hv, ht, fun hmn => ⟨?_, ?_⟩, fun hmn => ⟨?_, ?_⟩, hshift.written,
    hshift.zero, hshift.negative, hshift.pc, fun hmn => execTimes_nine_of_mnemonic_ROL hmn hv⟩
  · rw [hmn, shiftOf, rol8_result_toNat]
  · rw [hshift.carry, hmn, shiftOf, rol8]
  · rw [hmn, shiftOf, ror8_result_toNat]
  · rw [hshift.carry, hmn, shiftOf, ror8]

end Sys2Proof.Machine
end

section
/-!
The compares, increments and decrements (spec/45_compare_incdec.md): the fourteen compares as one operation over a
register and an operand, INC and DEC as one operation over a memory operand, and the four index register steps as one
operation over a register.
-/

namespace Sys2Proof.Machine

/-! ### The compares (R140, R141, R142) -/

/-- The register an operation compares with its operand (R140, R141, R142); every other operation has A here. -/
def comparedRegister : Mnemonic → Reg
  | .CPX => .X
  | .CPY => .Y
  | _ => .A

/-- The difference modulo 256, without going below 0. -/
theorem sub_eq_ofNat (r m : Byte) : r - m = BitVec.ofNat 8 (r.toNat + 256 - m.toNat) := by bv_omega

/-- What a comparison of `r` with `m` by an instruction of length `len` does, from state `s` to state `t`. -/
structure Compares (r m : Byte) (len : Nat) (s t : State) : Prop where
  carry : t.flag .C = decide (m.toNat ≤ r.toNat)
  zero : t.flag .Z = decide (r = m)
  negative : t.flag .N = (r - m).getLsbD 7
  pc : t.pc = s.pc + BitVec.ofNat 16 len
  frame : Frame [] [.C, .Z, .N] [] s t

theorem compareReg_compares (r : Reg) (src : Src) (s : State) :
    ∃ t, compareReg r src s = .next t ∧ Compares (s.reg r) (src.operand s) src.length s t := by
  obtain ⟨t, ht, hframe, -⟩ := compareReg_does r src s
  obtain ⟨hC, hZ, hN, -⟩ := compareIsSubtractionThrownAway s.p (s.reg r) (src.operand s)
  refine ⟨t, ht, ?_⟩
  cases ht
  exact ⟨hC, hZ, hN, rfl, hframe⟩

/-- The fourteen compares are one operation over the register of the mnemonic and the operand of their mode. -/
theorem exists_src_of_compare {i : Instr} (h : i.mnemonic ∈ ([.CMP, .CPX, .CPY] : List Mnemonic)) :
    ∃ src : Src, i.mode = src.mode ∧ exec i = compareReg (comparedRegister i.mnemonic) src := by
  cases i with
  | cmpImm b1 | cpxImm b1 | cpyImm b1 => exact ⟨.imm b1, rfl, rfl⟩
  | cmpZp | cmpZpx | cmpAbs | cmpAbsx | cmpAbsy | cmpIndx | cmpIndy | cpxZp | cpxAbs | cpyZp | cpyAbs =>
    exact ⟨.mem _, rfl, rfl⟩
  | _ => simp [Instr.mnemonic] at h

/-- The rows of the statement's table are the three mnemonics with their registers. -/
theorem comparedRegister_of_row : ∀ row ∈ ([(.CMP, .A), (.CPX, .X), (.CPY, .Y)] : List (Mnemonic × Reg)),
    row.1 ∈ ([.CMP, .CPX, .CPY] : List Mnemonic) ∧ row.2 = comparedRegister row.1 := by decide

/-! ### Adding and taking off one (R100) -/

theorem inc8_toNat (v : Byte) : (inc8 v).toNat = (v.toNat + 1) % 256 := BitVec.toNat_add v 1

theorem dec8_toNat (v : Byte) : (dec8 v).toNat = (v.toNat + 255) % 256 := by
  rw [dec8]
  bv_omega

/-! ### INC and DEC (R143, R144) -/

/-- What an instruction of length `len` does that writes `v` to address `ea` with `SetZN` (R91), from state `s` to
state `t`. -/
structure WritesByte (ea : Word) (v : Byte) (len : Nat) (s t : State) : Prop where
  byte : t.readByte ea = v
  zero : t.flag .Z = decide (v = 0)
  negative : t.flag .N = v.getLsbD 7
  pc : t.pc = s.pc + BitVec.ofNat 16 len
  frame : Frame [] [.Z, .N] [ea] s t

theorem stepMemory_writesByte (f : Byte → Byte) (m : MemMode) (s : State) :
    ∃ t, stepMemory f m s = .next t ∧ WritesByte (m.ea s) (f (s.readByte (m.ea s))) m.length s t := by
  obtain ⟨t, ht, hframe, -⟩ := stepMemory_does f m s
  refine ⟨t, ht, ?_⟩
  cases ht
  exact {
    byte := s.readByte_writeByte_same (m.ea s) _
    zero := (State.flag_setZN _ _ .Z).trans (beq_eq_decide ..)
    negative := (State.flag_setZN _ _ .N).trans (msb_eq_getLsbD_seven _)
    pc := rfl
    frame := hframe }

/-- INC and DEC are one operation over a function of a byte and the memory operand of their mode. -/
theorem exists_mem_of_incDec {i : Instr} (h : i.mnemonic ∈ ([.INC, .DEC] : List Mnemonic)) :
    ∃ m f, i.mode = .mem m ∧ exec i = stepMemory f m ∧
      (i.mnemonic = .INC → f = inc8) ∧ (i.mnemonic = .DEC → f = dec8) := by
  cases i with
  | incZp | incZpx | incAbs | incAbsx => exact ⟨_, inc8, rfl, rfl, fun _ => rfl, nofun⟩
  | decZp | decZpx | decAbs | decAbsx => exact ⟨_, dec8, rfl, rfl, nofun, fun _ => rfl⟩
  | _ => simp [Instr.mnemonic] at h

/-! ### INX, INY, DEX and DEY (R145 to R148) -/

/-- The register each of the four steps, and what it adds modulo 256 (R145 to R148). -/
def indexSteps : List (Mnemonic × Reg × Nat) := [(.INX, .X, 1), (.INY, .Y, 1), (.DEX, .X, 255), (.DEY, .Y, 255)]

/-- The four are one operation over the register of their row and a function that adds the row's number. -/
theorem exists_step_of_mem_indexSteps {i : Instr} {r : Reg} {n : Nat} (h : (i.mnemonic, r, n) ∈ indexSteps) :
    ∃ f, exec i = stepRegister f r ∧ ∀ v, (f v).toNat = (v.toNat + n) % 256 := by
  cases i with
  | inx =>
    obtain ⟨rfl, rfl⟩ : r = .X ∧ n = 1 := by simpa [Instr.mnemonic, indexSteps] using h
    exact ⟨inc8, rfl, inc8_toNat⟩
  | iny =>
    obtain ⟨rfl, rfl⟩ : r = .Y ∧ n = 1 := by simpa [Instr.mnemonic, indexSteps] using h
    exact ⟨inc8, rfl, inc8_toNat⟩
  | dex =>
    obtain ⟨rfl, rfl⟩ : r = .X ∧ n = 255 := by simpa [Instr.mnemonic, indexSteps] using h
    exact ⟨dec8, rfl, dec8_toNat⟩
  | dey =>
    obtain ⟨rfl, rfl⟩ : r = .Y ∧ n = 255 := by simpa [Instr.mnemonic, indexSteps] using h
    exact ⟨dec8, rfl, dec8_toNat⟩
  | _ => simp [Instr.mnemonic, indexSteps] at h

/-! ### The statements about the compares, increments and decrements -/

/-- Settles O36: a comparison's flags are those of `cmp8`, and its frame is that of `compareReg`. -/
theorem comparesWriteOnlyFlags : Obligations.ComparesWriteOnlyFlags := by
  intro i s r h
  obtain ⟨hmn, hr⟩ := comparedRegister_of_row _ h
  obtain rfl : r = comparedRegister i.mnemonic := hr
  obtain ⟨src, hmode, hexec⟩ := exists_src_of_compare hmn
  obtain ⟨t, ht, hcmp⟩ := compareReg_compares (comparedRegister i.mnemonic) src s
  refine ⟨opcode_mem_opcodesOf i, src.operand s, t, by rw [hmode, src.resolve_mode_operand], by rw [hexec, ht],
    hcmp.carry, hcmp.zero, ?_, ?_, hcmp.frame⟩
  · rw [hcmp.negative, sub_eq_ofNat]
  · rw [hcmp.pc, Instr.length, hmode, src.length_mode]

/-- Settles O37: INC and DEC write what `inc8` and `dec8` make of the byte at ea. -/
theorem incAndDecStepMemory : Obligations.IncAndDecStepMemory := by
  intro i s h
  obtain ⟨m, f, hmode, hexec, hinc, hdec⟩ := exists_mem_of_incDec h
  obtain ⟨t, ht, hwrites⟩ := stepMemory_writesByte f m s
  refine ⟨opcode_mem_opcodesOf i, m.ea s, f (s.readByte (m.ea s)), t, by rw [hmode, resolve], by rw [hexec, ht],
    fun hmn => ?_, fun hmn => ?_, hwrites.byte, hwrites.zero, hwrites.negative, ?_, hwrites.frame⟩
  · rw [hinc hmn, inc8_toNat]
  · rw [hdec hmn, dec8_toNat]
  · rw [hwrites.pc, Instr.length, hmode, Mode.length]

/-- Settles O38: the register takes the stepped byte. -/
theorem indexRegistersStepByOne : Obligations.IndexRegistersStepByOne := by
  intro i s r n h
  obtain ⟨f, hexec, hf⟩ := exists_step_of_mem_indexSteps h
  have htakes := advance_setZN_setReg_takesByte r (f (s.reg r)) 1 s
  refine ⟨opcode_mem_opcodesOf i, _, by rw [hexec, stepRegister], ?_, htakes.zero, htakes.negative, htakes.pc,
    htakes.frame⟩
  rw [htakes.reg, hf]

end Sys2Proof.Machine
end

section
/-!
The loads and the stores (spec/46_load_store.md): the eighteen loads as one operation over a register and an operand, and
the thirteen stores as one operation over a register and an effective address.
-/

namespace Sys2Proof.Machine

/-! ### The register of a load or a store (R155 to R160) -/

/-- The loads with the register each of them writes (R155, R156, R157). -/
def loadRows : List (Mnemonic × Reg) := [(.LDA, .A), (.LDX, .X), (.LDY, .Y)]

/-- The stores with the register each of them reads (R158, R159, R160). -/
def storeRows : List (Mnemonic × Reg) := [(.STA, .A), (.STX, .X), (.STY, .Y)]

/-- The register a load writes or a store reads; every other operation has A here. -/
def movedRegister : Mnemonic → Reg
  | .LDX | .STX => .X
  | .LDY | .STY => .Y
  | _ => .A

theorem eq_movedRegister_of_loadRows : ∀ row ∈ loadRows, row.2 = movedRegister row.1 := by decide

theorem eq_movedRegister_of_storeRows : ∀ row ∈ storeRows, row.2 = movedRegister row.1 := by decide

/-! ### The loads (R155, R156, R157) -/

/-- The eighteen loads are one operation over the register of their row and the operand of their mode. -/
theorem exists_src_of_mem_loadRows {i : Instr} {r : Reg} (h : (i.mnemonic, r) ∈ loadRows) :
    ∃ src : Src, i.mode = src.mode ∧ exec i = loadReg r src := by
  obtain rfl : r = movedRegister i.mnemonic := eq_movedRegister_of_loadRows _ h
  cases i with
  | ldaImm b1 | ldxImm b1 | ldyImm b1 => exact ⟨.imm b1, rfl, rfl⟩
  | ldaZp | ldaZpx | ldaAbs | ldaAbsx | ldaAbsy | ldaIndx | ldaIndy
  | ldxZp | ldxZpy | ldxAbs | ldxAbsy | ldyZp | ldyZpx | ldyAbs | ldyAbsx => exact ⟨.mem _, rfl, rfl⟩
  | _ => simp [Instr.mnemonic, loadRows] at h

/-- A load takes its operand into the register of its row. -/
theorem exec_takesByte_of_mem_loadRows {i : Instr} {r : Reg} (h : (i.mnemonic, r) ∈ loadRows) (s : State) :
    ∃ m t, (resolve i.mode s).operand s = some m ∧ exec i s = .next t ∧ TakesByte r m i.length s t := by
  obtain ⟨src, hmode, hexec⟩ := exists_src_of_mem_loadRows h
  rw [Instr.length, hmode, hexec, src.length_mode]
  exact ⟨_, _, src.resolve_mode_operand s, rfl, advance_setZN_setReg_takesByte ..⟩

/-! ### The stores (R158, R159, R160) -/

/-- What an instruction of length `len` does that stores `v` at address `ea` and writes no flag (R158 to R160), from state
`s` to state `t`. -/
structure StoresByte (ea : Word) (v : Byte) (len : Nat) (s t : State) : Prop where
  byte : t.readByte ea = v
  pc : t.pc = s.pc + BitVec.ofNat 16 len
  frame : Frame [] [] [ea] s t

theorem advance_writeByte_storesByte (ea : Word) (v : Byte) (len : Nat) (s : State) :
    StoresByte ea v len s (advance len (s.writeByte ea v)) where
  byte := s.readByte_writeByte_same ea v
  pc := rfl
  frame := (frame_writeByte s ea v).trans (frame_advance len _)

/-- The thirteen stores are one operation over the register of their row and the memory operand of their mode. -/
theorem exists_mem_of_mem_storeRows {i : Instr} {r : Reg} (h : (i.mnemonic, r) ∈ storeRows) :
    ∃ m : MemMode, i.mode = .mem m ∧ exec i = storeReg r m := by
  obtain rfl : r = movedRegister i.mnemonic := eq_movedRegister_of_storeRows _ h
  cases i with
  | staZp | staZpx | staAbs | staAbsx | staAbsy | staIndx | staIndy
  | stxZp | stxZpy | stxAbs | styZp | styZpx | styAbs => exact ⟨_, rfl, rfl⟩
  | _ => simp [Instr.mnemonic, storeRows] at h

/-- A store writes the register of its row to the address its mode resolves to. -/
theorem exec_storesByte_of_mem_storeRows {i : Instr} {r : Reg} (h : (i.mnemonic, r) ∈ storeRows) (s : State) :
    ∃ ea t, resolve i.mode s = .address ea ∧ exec i s = .next t ∧ StoresByte ea (s.reg r) i.length s t := by
  obtain ⟨m, hmode, hexec⟩ := exists_mem_of_mem_storeRows h
  rw [Instr.length, hmode, hexec]
  exact ⟨m.ea s, _, rfl, rfl, advance_writeByte_storesByte ..⟩

/-! ### The statements about the loads and the stores -/

/-- Settles O39: a load takes its operand into its register, with Z and N. -/
theorem loadsTakeTheOperand : Obligations.LoadsTakeTheOperand := by
  intro i s r h
  obtain ⟨m, t, hm, ht, htakes⟩ := exec_takesByte_of_mem_loadRows h s
  refine ⟨opcode_mem_opcodesOf i, m, t, hm, ht, htakes.reg, ?_, ?_, htakes.pc, htakes.frame⟩
  · rw [htakes.zero, htakes.reg]
  · rw [htakes.negative, htakes.reg]

/-- Settles O40: a store is one write at ea and the advance of the program counter. -/
theorem storesWriteOnlyTheirByte : Obligations.StoresWriteOnlyTheirByte := by
  intro i s r h
  obtain ⟨ea, t, hea, ht, hstores⟩ := exec_storesByte_of_mem_storeRows h s
  exact ⟨opcode_mem_opcodesOf i, ea, t, hea, ht, hstores.byte, hstores.pc, hstores.frame⟩

end Sys2Proof.Machine
end

section
/-!
The register transfers and the stack instructions (spec/47_transfer_stack.md): five transfers as one operation over a source
and a destination, TXS, the two pushes as one operation over a byte, the two pulls, and the round trips through the stack
and through memory.
-/

namespace Sys2Proof.Machine

/-! ### The transfers (R170 to R175) -/

/-- The transfers that write Z and N, with the register each of them copies and the one it copies to (R170 to R174). -/
def transferRows : List (Mnemonic × Reg × Reg) :=
  [(.TAX, .A, .X), (.TXA, .X, .A), (.TAY, .A, .Y), (.TYA, .Y, .A), (.TSX, .SP, .X)]

/-- The source and the destination of a transfer; every other operation has the row of TAX here. -/
def transferRegisters : Mnemonic → Reg × Reg
  | .TXA => (.X, .A)
  | .TAY => (.A, .Y)
  | .TYA => (.Y, .A)
  | .TSX => (.SP, .X)
  | _ => (.A, .X)

theorem eq_transferRegisters_of_transferRows : ∀ row ∈ transferRows, row.2 = transferRegisters row.1 := by decide

/-- The opcodes of the five, from R170 to R174. -/
def transferOpcodes : List (Mnemonic × Byte) := [(.TAX, 0xAA), (.TXA, 0x8A), (.TAY, 0xA8), (.TYA, 0x98), (.TSX, 0xBA)]

/-- Each of the five has the opcode of its rule and is one operation over the registers of its row. -/
theorem opcode_and_exec_of_mem_transferRows {i : Instr} {src dst : Reg} (h : (i.mnemonic, src, dst) ∈ transferRows) :
    (i.mnemonic, i.opcode) ∈ transferOpcodes ∧ exec i = transfer src dst := by
  obtain ⟨rfl, rfl⟩ : src = (transferRegisters i.mnemonic).1 ∧ dst = (transferRegisters i.mnemonic).2 :=
    Prod.ext_iff.1 (eq_transferRegisters_of_transferRows _ h)
  cases i with
  | tax | txa | tay | tya | tsx => exact ⟨by decide, rfl⟩
  | _ => simp [Instr.mnemonic, transferRows] at h

/-! ### The pushes (R176, R178) -/

/-- What PHA and PHP do, each with the byte `v` it pushes, from state `s` to state `t`. -/
structure PushesByte (v : Byte) (s t : State) : Prop where
  byte : t.readByte (stackAddr s.sp) = v
  sp : t.sp = s.sp - 1
  pc : t.pc = s.pc + 1
  frame : Frame [.SP] [] [stackAddr s.sp] s t

theorem advance_push8_pushesByte (v : Byte) (s : State) : PushesByte v s (advance 1 (push8 v s)) where
  byte := by simp [readByte_push8]
  sp := rfl
  pc := rfl
  frame := (frame_push8 v s).trans (frame_advance 1 _)

/-- The slot a pull would read next holds the pushed byte, and a pull would give `SP` its old value back. -/
theorem PushesByte.next_pull {v : Byte} {s t : State} (h : PushesByte v s t) :
    t.readByte (stackAddr (t.sp + 1)) = v ∧ t.sp + 1 = s.sp := by
  have hsp : t.sp + 1 = s.sp := by rw [h.sp, BitVec.sub_add_cancel]
  exact ⟨by rw [hsp, h.byte], hsp⟩

/-! ### The statements about the transfers and the stack instructions -/

/-- Settles O41: a transfer takes the byte of its source into its destination; TXS is one register write. -/
theorem transfersCopyRegisters : Obligations.TransfersCopyRegisters := by
  refine ⟨fun i s src dst h => ?_, rfl, fun s => ?_⟩
  · obtain ⟨hop, hexec⟩ := opcode_and_exec_of_mem_transferRows h
    have htakes := advance_setZN_setReg_takesByte dst (s.reg src) 1 s
    refine ⟨hop, _, by rw [hexec, transfer], htakes.reg, ?_, ?_, htakes.pc, htakes.frame⟩
    · rw [htakes.zero, htakes.reg]
    · rw [htakes.negative, htakes.reg]
  · obtain ⟨_, ht, hframe, -⟩ := execTxs_does s
    cases ht
    exact ⟨_, rfl, rfl, rfl, hframe⟩

/-- Settles O42: PHA pushes A and PHP pushes the status copy with bits 4 and 5 set. -/
theorem pushesStoreOneStackByte : Obligations.PushesStoreOneStackByte := by
  intro s
  have hpha := advance_push8_pushesByte s.a s
  have hphp := advance_push8_pushesByte (pushedStatus s.p) s
  exact ⟨⟨rfl, _, rfl, hpha.byte, hpha.sp, hpha.pc, hpha.frame⟩, rfl, _, rfl, hphp.byte, hphp.sp, hphp.pc, hphp.frame⟩

/-- Settles O43: after the pull, PLA takes the byte into A with Z and N, and PLP loads P without bits 4 and 5. -/
theorem pullsLoadOneStackByte : Obligations.PullsLoadOneStackByte := by
  intro s
  obtain ⟨_, hpla, hplaFrame, -⟩ := execPla_does s
  obtain ⟨_, hplp, hplpFrame, -⟩ := execPlp_does s
  cases hpla
  cases hplp
  have htakes := advance_setZN_setReg_takesByte .A (pull8 s).1 1 (pull8 s).2
  refine ⟨⟨rfl, _, rfl, rfl, rfl, htakes.zero, htakes.negative, rfl, ?_⟩, rfl, _, rfl, rfl, rfl, rfl, hplpFrame⟩
  exact hplaFrame.mono (List.Perm.subset (.swap ..)) (fun _ h => h) (fun _ h => h)

/-- Settles O56: a pull reads the slot that was just pushed, and LDA absolute reads the byte that was just stored. -/
theorem pushPullAndStoreLoadRoundTrip : Obligations.PushPullAndStoreLoadRoundTrip := by
  refine ⟨fun s => ?_, fun s hs => ?_, fun i s r h => ?_⟩
  · obtain ⟨hbyte, hsp⟩ := (advance_push8_pushesByte s.a s).next_pull
    obtain ⟨⟨-, u, hu, hua, husp, -⟩, -⟩ := pullsLoadOneStackByte (advance 1 (push8 s.a s))
    exact ⟨_, u, rfl, hu, hua.trans hbyte, husp.trans hsp⟩
  · obtain ⟨hbyte, hsp⟩ := (advance_push8_pushesByte (pushedStatus s.p) s).next_pull
    obtain ⟨-, -, u, hu, hup, husp, -⟩ := pullsLoadOneStackByte (advance 1 (push8 (pushedStatus s.p) s))
    rw [hbyte] at hup
    exact ⟨_, u, rfl, hu, hup.trans (pulledStatus_pushedStatus hs), husp.trans hsp⟩
  · obtain ⟨ea, t, hea, ht, hstores⟩ := exec_storesByte_of_mem_storeRows h s
    have hload := advance_setZN_setReg_takesByte .A (t.readByte ea) 3 t
    exact ⟨ea, t, _, hea, ht, rfl, hload.reg.trans hstores.byte⟩

end Sys2Proof.Machine
end

section
/-!
The control-flow instructions (spec/48_control_flow.md) and the software trap (spec/60_exceptions.md): both jumps as one
program-counter write, the eight branches as one operation over a tested flag, the bytes that calls and traps leave on the
stack, and the returns that take them off it.
-/

namespace Sys2Proof.Machine

/-! ### The jumps (R190) -/

/-- Both jumps set the program counter to the effective address and do nothing else. -/
theorem exec_of_mnemonic_JMP {i : Instr} (h : i.mnemonic = .JMP) (s : State) :
    i.length = 3 ∧ ∃ ea, resolve i.mode s = .address ea ∧ exec i s = .next (s.setPc ea) := by
  cases i with
  | jmpAbs w => exact ⟨rfl, w, rfl, rfl⟩
  | jmpInd w => exact ⟨rfl, indirectTarget w s, rfl, rfl⟩
  | _ => cases h

/-! ### The branches (R193 to R201) -/

/-- The table of R193 with the opcodes of R194 to R201. -/
def branchRows : List (Mnemonic × Flag × Bool × Byte) :=
  [(.BCC, .C, false, 0x90), (.BCS, .C, true, 0xB0), (.BEQ, .Z, true, 0xF0), (.BNE, .Z, false, 0xD0),
    (.BMI, .N, true, 0x30), (.BPL, .N, false, 0x10), (.BVC, .V, false, 0x50), (.BVS, .V, true, 0x70)]

theorem takenWhen_and_opcodesOf_of_branchRows : ∀ row ∈ branchRows,
    takenWhen row.1 = some (row.2.1, row.2.2.1) ∧ opcodesOf row.1 = [(.rel, row.2.2.2)] := by decide

/-- The eight branches are one operation over the offset byte and whether their flag has its value. -/
theorem exists_offset_of_takenWhen {i : Instr} {f : Flag} {v : Bool} (h : takenWhen i.mnemonic = some (f, v)) :
    ∃ b1, i.mode = .rel b1 ∧ ∀ s, exec i s = branch (s.flag f == v) b1 s := by
  cases i with
  | bcc b1 | bne b1 | bpl b1 | bvc b1 =>
    cases h
    exact ⟨b1, rfl, fun s => by rw [beq_false]; rfl⟩
  | bcs b1 | beq b1 | bmi b1 | bvs b1 =>
    cases h
    exact ⟨b1, rfl, fun s => by rw [beq_true]; rfl⟩
  | _ => cases h

/-- Where a branch continues. -/
theorem branch_pc {taken : Bool} {b1 : Byte} {s t : State} (h : branch taken b1 s = .next t) :
    t.pc = if taken then relativeTarget b1 s else s.pc + 2 := by
  cases taken <;> cases h <;> rfl

/-! ### The slots of the stack in a row (R11, R43 to R45) -/

theorem sub_one_sub_one (b : Byte) : b - 1 - 1 = b - 2 := by bv_omega

theorem sub_one_sub_one_sub_one (b : Byte) : b - 1 - 1 - 1 = b - 3 := by bv_omega

theorem add_one_add_one (b : Byte) : b + 1 + 1 = b + 2 := by bv_omega

theorem add_one_add_one_add_one (b : Byte) : b + 1 + 1 + 1 = b + 3 := by bv_omega

/-- The three highest slots from `SP` down are three addresses. -/
theorem stackAddr_slots_ne (sp : Byte) : stackAddr sp ≠ stackAddr (sp - 1) ∧ stackAddr sp ≠ stackAddr (sp - 2) ∧
    stackAddr (sp - 1) ≠ stackAddr (sp - 2) :=
  ⟨stackAddr_ne (by bv_omega), stackAddr_ne (by bv_omega), stackAddr_ne (by bv_omega)⟩

/-- A pushed word is in the two slots from the old `SP` down, high byte first. -/
theorem readByte_push16_slots (w : Word) (s : State) : (push16 w s).readByte (stackAddr s.sp) = hi8 w ∧
    (push16 w s).readByte (stackAddr (s.sp - 1)) = lo8 w := by
  obtain ⟨h01, -, -⟩ := stackAddr_slots_ne s.sp
  exact ⟨by rw [readByte_push16, if_neg h01, if_pos rfl], by rw [readByte_push16, if_pos rfl]⟩

/-- Trap entry leaves the return address and the status copy in the three slots from the old `SP` down. -/
theorem readByte_enterTrap_slots (ret vector : Word) (s : State) :
    (enterTrap ret vector s).readByte (stackAddr s.sp) = hi8 ret ∧
    (enterTrap ret vector s).readByte (stackAddr (s.sp - 1)) = lo8 ret ∧
    (enterTrap ret vector s).readByte (stackAddr (s.sp - 2)) = pushedStatus s.p := by
  obtain ⟨h01, h02, h12⟩ := stackAddr_slots_ne s.sp
  simp only [readByte_enterTrap, sub_one_sub_one, h01, h02, h12, if_true, if_false, and_self]

theorem readByte_enterTrap_of_outside {a : Word} (h : a.toNat < 256 ∨ 511 < a.toNat) (ret vector : Word) (s : State) :
    (enterTrap ret vector s).readByte a = s.readByte a := by
  simp only [readByte_enterTrap, ne_stackAddr_of_outside h, if_false]

/-- Trap entry writes one flag, I (R202). -/
theorem flag_enterTrap (ret vector : Word) (s : State) (f : Flag) :
    (enterTrap ret vector s).flag f = if f = .I then true else s.flag f := by
  obtain ⟨-, -, -, -, hp⟩ := enterTrap_fields ret vector s
  rw [State.flag, hp, getFlag_setFlag, State.flag]

/-- BRK's vector is outside the stack page, so the pushes before it is read leave it as it was. -/
theorem enterTrap_vecBrk_pc (ret : Word) (s : State) :
    (enterTrap ret Config.vecBrk s).pc = hilo (s.readByte 0xFFFF) (s.readByte 0xFFFE) := by
  rw [enterTrap_pc, State.readWord, readByte_enterTrap_of_outside (by decide), readByte_enterTrap_of_outside (by decide)]
  rfl

/-! ### The statements about control flow and the trap -/

/-- Settles O44: both jumps are one program-counter write. -/
theorem jmpGoesToItsTarget : Obligations.JmpGoesToItsTarget := by
  intro i s h
  obtain ⟨hlen, ea, hea, hexec⟩ := exec_of_mnemonic_JMP h s
  exact ⟨h ▸ opcode_mem_opcodesOf i, hlen, ea, _, hea, hexec, rfl, frame_setPc s ea⟩

/-- Settles O45: the word is pushed into the two slots, and the rest is the frame of JSR. -/
theorem jsrPushesItsLastByteAddress : Obligations.JsrPushesItsLastByteAddress := by
  intro w s
  obtain ⟨_, ht, hframe, -⟩ := execJsr_does w s
  cases ht
  obtain ⟨hhi, hlo⟩ := readByte_push16_slots (s.pc + 2) s
  exact ⟨rfl, _, rfl, rfl, sub_one_sub_one s.sp, hhi, hlo, hframe⟩

/-- Settles O46: the word is pulled from the two slots, and the rest is the frame of RTS. -/
theorem rtsReturnsPastThePulledAddress : Obligations.RtsReturnsPastThePulledAddress := by
  refine ⟨rfl, fun s => ?_⟩
  obtain ⟨t, ht, hframe, -⟩ := execRts_does s
  have hpc : t.pc = (pull16 s).1 + 1 := by cases ht; rfl
  have hsp : t.sp = s.sp + 1 + 1 := by cases ht; rfl
  rw [pull16_fst, add_one_add_one] at hpc
  exact ⟨t, ht, hpc, hsp.trans (add_one_add_one _), hframe⟩

/-- Settles O47: the branches are one operation over the flag and the value of their row of R193's table. -/
theorem branchesTestOneFlag : Obligations.BranchesTestOneFlag := by
  intro i s f v op h
  obtain ⟨htaken, hops⟩ := takenWhen_and_opcodesOf_of_branchRows _ h
  obtain ⟨htag, hop⟩ : i.mode.tag = .rel ∧ i.opcode = op := by
    simpa [hops] using opcode_mem_opcodesOf i
  obtain ⟨b1, hmode, hexec⟩ := exists_offset_of_takenWhen htaken
  obtain ⟨t, ht, hframe, -⟩ := branch_does (s.flag f == v) b1 s
  refine ⟨hop, htag, congrArg Mode.length hmode, b1, t, hmode, (hexec s).trans ht, fun hf => ?_, fun hf => ?_, hframe⟩
  · rw [branch_pc ht, if_pos (beq_iff_eq.2 hf), relativeTarget_eq_ofInt]
  · rw [branch_pc ht, if_neg (mt beq_iff_eq.1 hf)]

/-- Settles O48: trap entry with its three slots, its vector outside the stack page, and the frame of BRK. -/
theorem brkEntersTheTrap : Obligations.BrkEntersTheTrap := by
  refine ⟨rfl, fun s => ?_⟩
  obtain ⟨_, ht, hframe, -⟩ := execBrk_does s
  cases ht
  obtain ⟨hhi, hlo, hstatus⟩ := readByte_enterTrap_slots (s.pc + 2) Config.vecBrk s
  exact ⟨_, rfl, hhi, hlo, hstatus, sub_one_sub_one_sub_one s.sp, flag_enterTrap _ _ s .I, rfl,
    enterTrap_vecBrk_pc (s.pc + 2) s, hframe⟩

/-- Settles O49: trap return from the three slots, and the frame of RTI. -/
theorem rtiReturnsFromTheTrap : Obligations.RtiReturnsFromTheTrap := by
  refine ⟨rfl, fun s => ?_⟩
  obtain ⟨_, ht, hframe, -⟩ := execRti_does s
  cases ht
  obtain ⟨-, -, -, hsp, hp, hpc, -⟩ := returnFromTrap_fields s
  rw [add_one_add_one_add_one] at hsp
  rw [add_one_add_one_add_one, add_one_add_one] at hpc
  exact ⟨_, rfl, hp, hpc, hsp, hframe⟩

/-- Settles O55: a return reads the slots that the call or the trap wrote, from the old `SP` down. -/
theorem callsAndTrapsReturn : Obligations.CallsAndTrapsReturn := by
  refine ⟨fun w s => ?_, fun s hs => ?_⟩
  · obtain ⟨-, t, ht, -, hsp, hhi, hlo, -⟩ := jsrPushesItsLastByteAddress w s
    refine ⟨t, ht, fun t' hsp' hslots => ?_⟩
    obtain ⟨u, hu, hpc, husp, -⟩ := rtsReturnsPastThePulledAddress.2 t'
    have h1 : t'.sp + 1 = s.sp - 1 := by rw [hsp', hsp]; bv_omega
    have h2 : t'.sp + 2 = s.sp := by rw [hsp', hsp, BitVec.sub_add_cancel]
    refine ⟨u, hu, ?_, husp.trans h2⟩
    rw [hpc, h1, h2, hslots _ (by simp), hslots _ (by simp), hhi, hlo, hilo_hi8_lo8]
    bv_omega
  · obtain ⟨t, ht, hhi, hlo, hstatus, hsp, -⟩ := brkEntersTheTrap.2 s
    refine ⟨t, ht, fun t' hsp' hslots => ?_⟩
    obtain ⟨u, hu, hp, hpc, husp, -⟩ := rtiReturnsFromTheTrap.2 t'
    have h1 : t'.sp + 1 = s.sp - 2 := by rw [hsp', hsp]; bv_omega
    have h2 : t'.sp + 2 = s.sp - 1 := by rw [hsp', hsp]; bv_omega
    have h3 : t'.sp + 3 = s.sp := by rw [hsp', hsp, BitVec.sub_add_cancel]
    refine ⟨u, hu, ?_, ?_, husp.trans h3⟩
    · rw [hpc, h2, h3, hslots _ (by simp), hslots _ (by simp), hhi, hlo, hilo_hi8_lo8]
    · rw [hp, h1, hslots _ (by simp), hstatus]
      exact pulledStatus_pushedStatus hs

end Sys2Proof.Machine
end

section
/-!
The flag instructions and NOP (spec/49_flagops_nop.md): the seven flag instructions as one operation over a flag and its
value. And the two states the spec names, after construct and after boot (spec/10_state.md section 7).
-/

namespace Sys2Proof.Machine

/-! ### Two writes of flags in a row (R90) -/

/-- The second of two writes of one flag stands. -/
theorem setFlag_setFlag_same (p : Byte) (f : Flag) (v w : Bool) : setFlag (setFlag p f v) f w = setFlag p f w := by
  refine status_ext fun g => ?_
  simp only [getFlag_setFlag]
  split <;> rfl

theorem setFlag_setFlag_comm (p : Byte) {f g : Flag} (h : f ≠ g) (v w : Bool) :
    setFlag (setFlag p f v) g w = setFlag (setFlag p g w) f v := by
  refine status_ext fun k => ?_
  simp only [getFlag_setFlag]
  by_cases hk : k = g
  · rw [if_pos hk, if_pos hk, if_neg (hk ▸ h.symm)]
  · rw [if_neg hk, if_neg hk]

theorem State.setFlag_setFlag_same (s : State) (f : Flag) (v w : Bool) :
    (s.setFlag f v).setFlag f w = s.setFlag f w :=
  congrArg s.setP (Machine.setFlag_setFlag_same s.p f v w)

theorem State.setFlag_setFlag_comm (s : State) {f g : Flag} (h : f ≠ g) (v w : Bool) :
    (s.setFlag f v).setFlag g w = (s.setFlag g w).setFlag f v :=
  congrArg s.setP (Machine.setFlag_setFlag_comm s.p h v w)

/-! ### The flag instructions (R215 to R221) -/

/-- The flag instructions with the flag each of them writes, its value, and the opcode. -/
def flagRows : List (Mnemonic × Flag × Bool × Byte) :=
  [(.CLC, .C, false, 0x18), (.SEC, .C, true, 0x38), (.CLI, .I, false, 0x58), (.SEI, .I, true, 0x78),
    (.CLV, .V, false, 0xB8), (.CLD, .D, false, 0xD8), (.SED, .D, true, 0xF8)]

/-- The flag a flag instruction writes and its value, as `takenWhen` for the branches. -/
def writtenFlag : Mnemonic → Option (Flag × Bool)
  | .CLC => some (.C, false)
  | .SEC => some (.C, true)
  | .CLI => some (.I, false)
  | .SEI => some (.I, true)
  | .CLV => some (.V, false)
  | .CLD => some (.D, false)
  | .SED => some (.D, true)
  | _ => none

theorem writtenFlag_and_opcodesOf_of_flagRows : ∀ row ∈ flagRows,
    writtenFlag row.1 = some (row.2.1, row.2.2.1) ∧ opcodesOf row.1 = [(.imp, row.2.2.2)] := by decide

/-- The seven flag instructions are one operation over the flag and the value of their row. -/
theorem exec_of_writtenFlag {i : Instr} {f : Flag} {v : Bool} (h : writtenFlag i.mnemonic = some (f, v)) :
    exec i = writeFlag f v := by
  cases i with
  | clc | sec | cli | sei | clv | cld | sed =>
    cases h
    rfl
  | _ => cases h

/-! ### The states after construct and after boot (R19, R20) -/

theorem State.reset_eq_boot_construct : State.reset = boot State.construct := rfl

theorem State.construct_inv : State.construct.Inv := ⟨rfl, rfl⟩

/-! ### The statements about the flag instructions, NOP and reset -/

/-- Settles O50: one flag write and the advance, and a second write of the same flag and value is no change. -/
theorem flagInstructionsWriteOneBit : Obligations.FlagInstructionsWriteOneBit := by
  intro i s f v op h
  obtain ⟨hwritten, hops⟩ := writtenFlag_and_opcodesOf_of_flagRows _ h
  obtain ⟨-, hop⟩ : i.mode.tag = .imp ∧ i.opcode = op := by
    simpa [hops] using opcode_mem_opcodesOf i
  have hframe : Frame [] [f] [] s (advance 1 (s.setFlag f v)) := (frame_setFlag s f v).trans (frame_advance 1 _)
  rw [exec_of_writtenFlag hwritten]
  exact ⟨hop, _, rfl, getFlag_setFlag_same s.p f v, rfl, hframe, _, rfl, setFlag_setFlag_same s.p f v v⟩

/-- Settles O51: NOP's meaning is the advance by 1. -/
theorem nopOnlyAdvances : Obligations.NopOnlyAdvances := ⟨rfl, fun _ => rfl⟩

/-- Settles O16: boot keeps the invariant, which the constructed state meets. -/
theorem resetIsConstructThenBoot : Obligations.ResetIsConstructThenBoot :=
  ⟨State.reset_eq_boot_construct, State.construct_inv, State.construct_inv.boot⟩

end Sys2Proof.Machine
end

section
/-!
What no instruction does with P.I and P.D (R103, R235; spec/10_state.md R15): run after a write of such a flag, an instruction
gives the state it gives without the write, but for that flag and the status byte that PHP and BRK push.
-/

namespace Sys2Proof.Machine

/-! ### Updates after a flag write are the flag write after the updates -/

@[simp] theorem State.setReg_setFlag (s : State) (f : Flag) (b : Bool) (r : Reg) (v : Byte) :
    (s.setFlag f b).setReg r v = (s.setReg r v).setFlag f b := by cases r <;> rfl
@[simp] theorem State.writeByte_setFlag (s : State) (f : Flag) (b : Bool) (addr : Word) (v : Byte) :
    (s.setFlag f b).writeByte addr v = (s.writeByte addr v).setFlag f b := rfl
@[simp] theorem State.setP_setFlag (s : State) (f : Flag) (b : Bool) (q : Byte) :
    (s.setFlag f b).setP (Machine.setFlag q f b) = (s.setP q).setFlag f b := rfl
@[simp] theorem advance_setFlag (len : Nat) (s : State) (f : Flag) (b : Bool) :
    advance len (s.setFlag f b) = (advance len s).setFlag f b := rfl

@[simp] theorem ea_setFlag (m : MemMode) (s : State) (f : Flag) (b : Bool) : m.ea (s.setFlag f b) = m.ea s := by
  cases m <;> rfl
@[simp] theorem Src.operand_setFlag (src : Src) (s : State) (f : Flag) (b : Bool) :
    src.operand (s.setFlag f b) = src.operand s := by
  cases src with
  | imm => rfl
  | mem m => simp [operand]
@[simp] theorem Dst.operand_setFlag (d : Dst) (s : State) (f : Flag) (b : Bool) :
    d.operand (s.setFlag f b) = d.operand s := by
  cases d with
  | acc => rfl
  | mem m => simp [operand]
@[simp] theorem Dst.writeBack_setFlag (d : Dst) (v : Byte) (s : State) (f : Flag) (b : Bool) :
    d.writeBack v (s.setFlag f b) = (d.writeBack v s).setFlag f b := by
  cases d with
  | acc => rfl
  | mem m => simp [writeBack]

theorem State.flag_setFlag_other (s : State) {f g : Flag} (h : f ≠ g) (b : Bool) :
    (s.setFlag f b).flag g = s.flag g := getFlag_setFlag_other s.p b h.symm

/-! ### The flags that are computed and tested -/

/-- The four flags that some instruction computes from data or tests: all but I, D and the two constant bits (R15). -/
def dataFlags : List Flag := [.C, .Z, .N, .V]

theorem mem_dataFlags_of_takenWhen {mn : Mnemonic} {g : Flag} {v : Bool} (h : takenWhen mn = some (g, v)) :
    g ∈ dataFlags := by
  cases mn with
  | BCC | BCS | BEQ | BNE | BMI | BPL | BVC | BVS =>
    cases h
    decide
  | _ => cases h

section
variable {f : Flag} (hf : f ∉ dataFlags)
include hf

theorem ne_dataFlags : f ≠ .C ∧ f ≠ .Z ∧ f ≠ .N ∧ f ≠ .V := by
  simpa [dataFlags] using hf

theorem setZN_setFlag (p : Byte) (b : Bool) (v : Byte) : setZN (setFlag p f b) v = setFlag (setZN p v) f b := by
  obtain ⟨-, hZ, hN, -⟩ := ne_dataFlags hf
  simp only [setZN, setFlag_setFlag_comm _ hZ, setFlag_setFlag_comm _ hN]

theorem cmp8_setFlag (p : Byte) (b : Bool) (r m : Byte) : cmp8 (setFlag p f b) r m = setFlag (cmp8 p r m) f b := by
  obtain ⟨hC, -⟩ := ne_dataFlags hf
  simp only [cmp8, setFlag_setFlag_comm _ hC, setZN_setFlag hf]

theorem bitFlags_setFlag (p : Byte) (b : Bool) (a m : Byte) :
    bitFlags (setFlag p f b) a m = setFlag (bitFlags p a m) f b := by
  obtain ⟨-, hZ, hN, hV⟩ := ne_dataFlags hf
  simp only [bitFlags, setFlag_setFlag_comm _ hZ, setFlag_setFlag_comm _ hN, setFlag_setFlag_comm _ hV]

theorem State.setZN_setFlag (s : State) (b : Bool) (v : Byte) :
    (s.setFlag f b).setZN v = (s.setZN v).setFlag f b :=
  congrArg s.setP (Machine.setZN_setFlag hf s.p b v)

theorem takeSum_setFlag (sum : Sum) (s : State) (b : Bool) :
    takeSum sum (s.setFlag f b) = (takeSum sum s).setFlag f b := by
  obtain ⟨hC, -, -, hV⟩ := ne_dataFlags hf
  simp only [takeSum, State.setReg_setFlag, State.setFlag_setFlag_comm _ hC, State.setFlag_setFlag_comm _ hV,
    State.setZN_setFlag hf]

end

/-! ### Operations that conceal a flag -/

/-- Run after a write of `f`, the operation completes with the same state but for `f` and the bytes at the addresses
`stored`. -/
def Conceals (f : Flag) (b : Bool) (stored : List Word) (s : State) (op : State → Result) : Prop :=
  ∃ t t', op s = .next t ∧ op (s.setFlag f b) = .next t' ∧ t'.pc = t.pc ∧ Frame [] [f] stored t t'

/-- The operation carries the flag along. -/
theorem Conceals.of_carried {f : Flag} {b : Bool} {s t : State} {op : State → Result} (h : op s = .next t)
    (h' : op (s.setFlag f b) = .next (t.setFlag f b)) : Conceals f b [] s op :=
  ⟨t, _, h, h', rfl, frame_setFlag t f b⟩

/-- The operation writes over the flag. -/
theorem Conceals.of_overwritten {f : Flag} {b : Bool} {s t : State} {op : State → Result} (h : op s = .next t)
    (h' : op (s.setFlag f b) = .next t) : Conceals f b [] s op :=
  ⟨t, t, h, h', rfl, fun _ _ => rfl, fun _ _ => rfl, fun _ _ => rfl⟩

theorem writeFlag_conceals (f g : Flag) (b v : Bool) (s : State) : Conceals f b [] s (writeFlag g v) := by
  by_cases h : f = g
  · exact .of_overwritten rfl (by rw [writeFlag, h, State.setFlag_setFlag_same])
  · exact .of_carried rfl (by rw [writeFlag, State.setFlag_setFlag_comm _ h, advance_setFlag])

theorem storeReg_conceals (f : Flag) (b : Bool) (r : Reg) (m : MemMode) (s : State) :
    Conceals f b [] s (storeReg r m) :=
  .of_carried rfl (by simp [storeReg])

theorem branch_conceals (f : Flag) (b taken : Bool) (b1 : Byte) (s : State) :
    Conceals f b [] s (branch taken b1) := by
  cases taken
  · exact .of_carried rfl rfl
  · exact .of_carried rfl rfl

/-- PHP writes the two status copies to one slot. -/
theorem execPhp_conceals (f : Flag) (b : Bool) (s : State) : Conceals f b [stackAddr s.sp] s execPhp := by
  refine ⟨_, _, rfl, rfl, rfl, fun r _ => by cases r <;> rfl, fun g hg => ?_, fun a ha => ?_⟩
  · exact s.flag_setFlag_other (List.ne_of_not_mem_cons hg).symm b
  · rw [readByte_advance, readByte_advance, readByte_push8, readByte_push8]
    exact (if_neg (List.ne_of_not_mem_cons ha)).trans (if_neg (List.ne_of_not_mem_cons ha)).symm

/-- BRK writes the two status copies to one slot, and reads its vector outside the stack page. -/
theorem execBrk_conceals (f : Flag) (b : Bool) (s : State) : Conceals f b [stackAddr (s.sp - 2)] s execBrk := by
  refine ⟨_, _, rfl, rfl, ?_, fun r _ => by cases r <;> rfl, fun g hg => ?_, fun a ha => ?_⟩
  · simp only [enterTrap_vecBrk_pc, State.readByte_setFlag]
  · simp only [flag_enterTrap, s.flag_setFlag_other (List.ne_of_not_mem_cons hg).symm]
  · have hslot : a ≠ stackAddr (s.sp - 1 - 1) := by
      rw [sub_one_sub_one]
      exact List.ne_of_not_mem_cons ha
    rw [readByte_enterTrap, readByte_enterTrap]
    exact (if_neg hslot).trans (if_neg hslot).symm

section
variable {f : Flag} (hf : f ∉ dataFlags) (b : Bool) (s : State)
include hf

theorem adc_conceals (src : Src) : Conceals f b [] s (adc src) := by
  obtain ⟨hC, -⟩ := ne_dataFlags hf
  exact .of_carried rfl (by simp [adc, s.flag_setFlag_other hC, takeSum_setFlag hf])

theorem sbc_conceals (src : Src) : Conceals f b [] s (sbc src) := by
  obtain ⟨hC, -⟩ := ne_dataFlags hf
  exact .of_carried rfl (by simp [sbc, s.flag_setFlag_other hC, takeSum_setFlag hf])

theorem logic_conceals (fn : Byte → Byte → Byte) (src : Src) : Conceals f b [] s (logic fn src) :=
  .of_carried rfl (by simp [logic, State.setZN_setFlag hf])

theorem loadReg_conceals (r : Reg) (src : Src) : Conceals f b [] s (loadReg r src) :=
  .of_carried rfl (by simp [loadReg, State.setZN_setFlag hf])

theorem stepRegister_conceals (fn : Byte → Byte) (r : Reg) : Conceals f b [] s (stepRegister fn r) :=
  .of_carried rfl (by simp [stepRegister, State.setZN_setFlag hf])

theorem transfer_conceals (src dst : Reg) : Conceals f b [] s (transfer src dst) :=
  .of_carried rfl (by simp [transfer, State.setZN_setFlag hf])

theorem stepMemory_conceals (fn : Byte → Byte) (m : MemMode) : Conceals f b [] s (stepMemory fn m) :=
  .of_carried rfl (by simp [stepMemory, State.setZN_setFlag hf])

theorem shift_conceals (fn : Byte → Bool → Shifted) (d : Dst) : Conceals f b [] s (shift fn d) := by
  obtain ⟨hC, -⟩ := ne_dataFlags hf
  exact .of_carried rfl
    (by simp [shift, s.flag_setFlag_other hC, State.setFlag_setFlag_comm _ hC, State.setZN_setFlag hf])

theorem compareReg_conceals (r : Reg) (src : Src) : Conceals f b [] s (compareReg r src) :=
  .of_carried rfl (by simp [compareReg, cmp8_setFlag hf])

theorem bitTest_conceals (m : MemMode) : Conceals f b [] s (bitTest m) :=
  .of_carried rfl (by simp [bitTest, bitFlags_setFlag hf])

theorem execPla_conceals : Conceals f b [] s execPla :=
  .of_carried rfl (by simp [execPla, State.setZN_setFlag hf])

/-- A branch tests one of the four. -/
theorem exec_conceals_of_takenWhen {i : Instr} {g : Flag} {v : Bool} (h : takenWhen i.mnemonic = some (g, v)) :
    Conceals f b [] s (exec i) := by
  obtain ⟨b1, -, hexec⟩ := exists_offset_of_takenWhen h
  have hne : f ≠ g := fun hfg => hf (hfg ▸ mem_dataFlags_of_takenWhen h)
  obtain ⟨t, t', ht, ht', hagree⟩ := branch_conceals f b (s.flag g == v) b1 s
  exact ⟨t, t', (hexec s).trans ht, by rw [hexec, s.flag_setFlag_other hne, ht'], hagree⟩

end

/-- The slot an instruction pushes a status copy to. -/
def statusCopySlots (i : Instr) (s : State) : List Word :=
  if i.mnemonic = .PHP then [stackAddr s.sp] else if i.mnemonic = .BRK then [stackAddr (s.sp - 2)] else []

/-- Every instruction conceals a flag that is not computed or tested, each constructor by the lemma of the shared operation
it is one line over. -/
theorem exec_conceals {f : Flag} (hf : f ∉ dataFlags) (b : Bool) (s : State) (i : Instr) :
    Conceals f b (statusCopySlots i s) s (exec i) := by
  cases i with
  | adcImm | adcZp | adcZpx | adcAbs | adcAbsx | adcAbsy | adcIndx | adcIndy => exact adc_conceals hf b s _
  | sbcImm | sbcZp | sbcZpx | sbcAbs | sbcAbsx | sbcAbsy | sbcIndx | sbcIndy => exact sbc_conceals hf b s _
  | andImm | andZp | andZpx | andAbs | andAbsx | andAbsy | andIndx | andIndy
  | oraImm | oraZp | oraZpx | oraAbs | oraAbsx | oraAbsy | oraIndx | oraIndy
  | eorImm | eorZp | eorZpx | eorAbs | eorAbsx | eorAbsy | eorIndx | eorIndy => exact logic_conceals hf b s _ _
  | bitZp | bitAbs => exact bitTest_conceals hf b s _
  | aslAcc | aslZp | aslZpx | aslAbs | aslAbsx | lsrAcc | lsrZp | lsrZpx | lsrAbs | lsrAbsx
  | rolAcc | rolZp | rolZpx | rolAbs | rolAbsx | rorAcc | rorZp | rorZpx | rorAbs | rorAbsx =>
    exact shift_conceals hf b s _ _
  | cmpImm | cmpZp | cmpZpx | cmpAbs | cmpAbsx | cmpAbsy | cmpIndx | cmpIndy
  | cpxImm | cpxZp | cpxAbs | cpyImm | cpyZp | cpyAbs => exact compareReg_conceals hf b s _ _
  | incZp | incZpx | incAbs | incAbsx | decZp | decZpx | decAbs | decAbsx => exact stepMemory_conceals hf b s _ _
  | inx | iny | dex | dey => exact stepRegister_conceals hf b s _ _
  | ldaImm | ldaZp | ldaZpx | ldaAbs | ldaAbsx | ldaAbsy | ldaIndx | ldaIndy
  | ldxImm | ldxZp | ldxZpy | ldxAbs | ldxAbsy | ldyImm | ldyZp | ldyZpx | ldyAbs | ldyAbsx =>
    exact loadReg_conceals hf b s _ _
  | staZp | staZpx | staAbs | staAbsx | staAbsy | staIndx | staIndy
  | stxZp | stxZpy | stxAbs | styZp | styZpx | styAbs => exact storeReg_conceals f b _ _ s
  | tax | txa | tay | tya | tsx => exact transfer_conceals hf b s _ _
  | pla => exact execPla_conceals hf b s
  | php => exact execPhp_conceals f b s
  | plp | rti => exact .of_overwritten rfl rfl
  | bcc | bcs | beq | bne | bmi | bpl | bvc | bvs => exact exec_conceals_of_takenWhen hf b s rfl
  | brk => exact execBrk_conceals f b s
  | clc | sec | cli | sei | clv | cld | sed => exact writeFlag_conceals f _ b _ s
  | txs | pha | jmpAbs | jmpInd | jsr | rts | nop => exact .of_carried rfl rfl

/-- Settles O54: I and D are not among the flags that any instruction computes or tests. -/
theorem interruptAndDecimalFlagsAreStorageOnly : Obligations.InterruptAndDecimalFlagsAreStorageOnly := by
  intro i s f b h
  have hf : f ∉ dataFlags := by
    rcases h with rfl | rfl
    · decide
    · decide
  exact exec_conceals hf b s i

end Sys2Proof.Machine
end
